-- ==== Sys2Proof/Word.lean ====
section
/-! DEFINITION. The two widths of the block: a byte for data, a word for addresses (00_scope.md R5, R6). -/

namespace Sys2Proof

/-- DATA_WIDTH: A, X, Y, SP, P, `opcode`, `fetched`, `cycles` and every bus datum (00_scope.md R5). -/
abbrev Byte := BitVec 8

/-- ADDR_WIDTH: pc, `address_absolute`, `address_relative` and every bus address (00_scope.md R5). -/
abbrev Word := BitVec 16

end Sys2Proof
end

