-- ==== Sys2Proof/Config.lean ====
section
/-! DEFINITION. What is fixed for a machine: the closed tag sets of the instruction descriptor (30_encoding.md R88),
the model arguments of 00_scope.md R5, and the free values. -/

namespace Sys2Proof

/-- The thirteen addressing-mode tags (30_encoding.md R88, 41_addressing_modes.md R121 to R133). -/
inductive Mode where
  | implied | accumulator | immediate | zeroPage | zeroPageX | zeroPageY | absolute | absoluteX | absoluteY
  | relative | indirect | indirectX | indirectY
  deriving DecidableEq, Repr

/-- The operand of an instruction as its mode and the operand bytes of the stream (30_encoding.md R80, R82). -/
inductive Operand where
  | implied
  | accumulator
  | immediate (d8 : Byte)
  | zeroPage (d8 : Byte)
  | zeroPageX (d8 : Byte)
  | zeroPageY (d8 : Byte)
  | absolute (a16 : Word)
  | absoluteX (a16 : Word)
  | absoluteY (a16 : Word)
  | relative (d8 : Byte)
  | indirect (a16 : Word)
  | indirectX (d8 : Byte)
  | indirectY (d8 : Byte)
  deriving DecidableEq, Repr

/-- The 70 operation tags: 56 official, then 14 unofficial (30_encoding.md R88, 90_conflicts.md C6). -/
inductive Operation where
  | adc | sbc | and | eor | ora
  | asl | lsr | rol | ror
  | inc | dec | inx | iny | dex | dey
  | lda | ldx | ldy | sta | stx | sty
  | sec | sed | sei | clc | cld | cli | clv
  | cmp | cpx | cpy
  | jmp | jsr | rti | rts
  | bcc | bcs | beq | bne | bmi | bpl | bvc | bvs
  | pha | php | pla | plp
  | tax | tay | tsx | txa | txs | tya
  | brk | bit | nop
  | alr | anc | arr | axs | lax | sax | dcp | isc | rla | rra | slo | sre | skb | ign
  deriving DecidableEq, Repr

/-- The instruction descriptor (30_encoding.md R88). -/
structure Descriptor where
  operation : Operation
  mode : Mode
  baseCycles : Nat
  deriving DecidableEq, Repr

/-- UNOFFICIAL_EXEC: what executing an unofficial operation does (49_unofficial.md R235). -/
inductive UnofficialExec where
  | nop | full | fault
  deriving DecidableEq, Repr

/-- BUS_ABSENT_POLICY: what a read that the bus reports absent yields (20_memory.md R54). -/
inductive AbsentPolicy where
  | fault
  | defaultByte (b : Byte)
  deriving DecidableEq, Repr

/-- What lies behind a mapped region of a richer bus (20_memory.md R54, R61).
DESIGN CHOICE (log 8), safe: every state of every such map is quantified over. -/
inductive RegionKind where
  | ram | device
  deriving DecidableEq, Repr

/-- A mapped region: the addresses `first` to `last`, both included. -/
structure Region where
  first : Word
  last : Word
  kind : RegionKind
  deriving DecidableEq, Repr

/-- BUS: the flat 64 KiB RAM (20_memory.md R53), or a richer bus that maps some regions only (R54). -/
inductive BusMap where
  | flat
  | segmented (regions : List Region)
  deriving DecidableEq, Repr

/-- What the bus has at an address. -/
inductive Access where
  | ram | device | absent
  deriving DecidableEq, Repr

/-- The model arguments of 00_scope.md R5. They stand in State and no step changes them
(DESIGN CHOICE, log 1, safe). -/
structure Params where
  unofficialExec : UnofficialExec
  bus : BusMap
  absentPolicy : AbsentPolicy
  deriving DecidableEq, Repr

/-- The defaults of 00_scope.md R5: this hardware's own values. -/
def Params.defaults : Params :=
  { unofficialExec := .nop, bus := .flat, absentPolicy := .fault }

/-- FREE VALUE: the byte a device region answers to the n-th device read, at an address (20_memory.md R61, M5).
The spec says nothing of it, so nothing is assumed of it (DESIGN CHOICE, log 7). -/
opaque Config.deviceByte : Nat → Word → Byte

/-- FREE VALUE: the byte `read_only` answers at an address the bus reports absent under BUS_ABSENT_POLICY = fault
(20_memory.md R51, 60_exceptions.md R279). The spec is silent there, so nothing is assumed of it
(DESIGN CHOICE, log 18). No operation of the block delivers it. -/
opaque Config.absentByte : Word → Byte

end Sys2Proof
end

