-- ==== Sys2Proof/Syntax.lean ====
section
/-! DEFINITION. The instruction set as syntax: one constructor per row of spec/opcode_table.json
(30_encoding.md R84, R85), with the operand its format gives it (R80, R82). -/

namespace Sys2Proof

/-- One constructor per row of the opcode table. A name is the row's mnemonic and its mode; where the table gives
several bytes one mnemonic and one mode (ANC, SKB, IGN), the byte ends the name. `d8` and `a16` are the operand
byte and the little-endian operand word of R82; a branch carries its displacement as the signed number of R82
(DESIGN CHOICE, log 13, safe: WellFormed gives its range). -/
inductive Instr where
  -- Binary ALU (42_alu.md)
  | adcIndX (d8 : Byte)
  | adcZp (d8 : Byte)
  | adcImm (d8 : Byte)
  | adcAbs (a16 : Word)
  | adcIndY (d8 : Byte)
  | adcZpX (d8 : Byte)
  | adcAbsY (a16 : Word)
  | adcAbsX (a16 : Word)
  | sbcIndX (d8 : Byte)
  | sbcZp (d8 : Byte)
  | sbcImm (d8 : Byte)
  | sbcAbs (a16 : Word)
  | sbcIndY (d8 : Byte)
  | sbcZpX (d8 : Byte)
  | sbcAbsY (a16 : Word)
  | sbcAbsX (a16 : Word)
  | andIndX (d8 : Byte)
  | andZp (d8 : Byte)
  | andImm (d8 : Byte)
  | andAbs (a16 : Word)
  | andIndY (d8 : Byte)
  | andZpX (d8 : Byte)
  | andAbsY (a16 : Word)
  | andAbsX (a16 : Word)
  | eorIndX (d8 : Byte)
  | eorZp (d8 : Byte)
  | eorImm (d8 : Byte)
  | eorAbs (a16 : Word)
  | eorIndY (d8 : Byte)
  | eorZpX (d8 : Byte)
  | eorAbsY (a16 : Word)
  | eorAbsX (a16 : Word)
  | oraIndX (d8 : Byte)
  | oraZp (d8 : Byte)
  | oraImm (d8 : Byte)
  | oraAbs (a16 : Word)
  | oraIndY (d8 : Byte)
  | oraZpX (d8 : Byte)
  | oraAbsY (a16 : Word)
  | oraAbsX (a16 : Word)
  -- Shifts, rotates, increments, decrements (43_shift_incdec.md)
  | aslZp (d8 : Byte)
  | aslAcc
  | aslAbs (a16 : Word)
  | aslZpX (d8 : Byte)
  | aslAbsX (a16 : Word)
  | lsrZp (d8 : Byte)
  | lsrAcc
  | lsrAbs (a16 : Word)
  | lsrZpX (d8 : Byte)
  | lsrAbsX (a16 : Word)
  | rolZp (d8 : Byte)
  | rolAcc
  | rolAbs (a16 : Word)
  | rolZpX (d8 : Byte)
  | rolAbsX (a16 : Word)
  | rorZp (d8 : Byte)
  | rorAcc
  | rorAbs (a16 : Word)
  | rorZpX (d8 : Byte)
  | rorAbsX (a16 : Word)
  | incZp (d8 : Byte)
  | incAbs (a16 : Word)
  | incZpX (d8 : Byte)
  | incAbsX (a16 : Word)
  | decZp (d8 : Byte)
  | decAbs (a16 : Word)
  | decZpX (d8 : Byte)
  | decAbsX (a16 : Word)
  | inx
  | iny
  | dex
  | dey
  -- Loads and stores (44_load_store.md)
  | ldaIndX (d8 : Byte)
  | ldaZp (d8 : Byte)
  | ldaImm (d8 : Byte)
  | ldaAbs (a16 : Word)
  | ldaIndY (d8 : Byte)
  | ldaZpX (d8 : Byte)
  | ldaAbsY (a16 : Word)
  | ldaAbsX (a16 : Word)
  | ldxImm (d8 : Byte)
  | ldxZp (d8 : Byte)
  | ldxAbs (a16 : Word)
  | ldxZpY (d8 : Byte)
  | ldxAbsY (a16 : Word)
  | ldyImm (d8 : Byte)
  | ldyZp (d8 : Byte)
  | ldyAbs (a16 : Word)
  | ldyZpX (d8 : Byte)
  | ldyAbsX (a16 : Word)
  | staIndX (d8 : Byte)
  | staZp (d8 : Byte)
  | staAbs (a16 : Word)
  | staIndY (d8 : Byte)
  | staZpX (d8 : Byte)
  | staAbsY (a16 : Word)
  | staAbsX (a16 : Word)
  | stxZp (d8 : Byte)
  | stxAbs (a16 : Word)
  | stxZpY (d8 : Byte)
  | styZp (d8 : Byte)
  | styAbs (a16 : Word)
  | styZpX (d8 : Byte)
  -- Flag instructions and compares (45_flags_compare.md)
  | sec
  | sed
  | sei
  | clc
  | cld
  | cli
  | clv
  | cmpIndX (d8 : Byte)
  | cmpZp (d8 : Byte)
  | cmpImm (d8 : Byte)
  | cmpAbs (a16 : Word)
  | cmpIndY (d8 : Byte)
  | cmpZpX (d8 : Byte)
  | cmpAbsY (a16 : Word)
  | cmpAbsX (a16 : Word)
  | cpxImm (d8 : Byte)
  | cpxZp (d8 : Byte)
  | cpxAbs (a16 : Word)
  | cpyImm (d8 : Byte)
  | cpyZp (d8 : Byte)
  | cpyAbs (a16 : Word)
  -- Control transfer and branches (46_control_transfer.md)
  | jmpAbs (a16 : Word)
  | jmpInd (a16 : Word)
  | jsrAbs (a16 : Word)
  | rti
  | rts
  | bcc (offset : Int)
  | bcs (offset : Int)
  | beq (offset : Int)
  | bne (offset : Int)
  | bmi (offset : Int)
  | bpl (offset : Int)
  | bvc (offset : Int)
  | bvs (offset : Int)
  -- Stack and transfers (47_stack_transfer.md)
  | pha
  | php
  | pla
  | plp
  | tax
  | tay
  | tsx
  | txa
  | txs
  | tya
  -- System (48_system.md)
  | brk
  | bitZp (d8 : Byte)
  | bitAbs (a16 : Word)
  | nop
  -- Unofficial (49_unofficial.md)
  | alrImm (d8 : Byte)
  | ancImm0B (d8 : Byte)
  | ancImm2B (d8 : Byte)
  | arrImm (d8 : Byte)
  | axsImm (d8 : Byte)
  | laxIndX (d8 : Byte)
  | laxZp (d8 : Byte)
  | laxAbs (a16 : Word)
  | laxIndY (d8 : Byte)
  | laxZpY (d8 : Byte)
  | laxAbsY (a16 : Word)
  | saxIndX (d8 : Byte)
  | saxZp (d8 : Byte)
  | saxAbs (a16 : Word)
  | saxZpY (d8 : Byte)
  | dcpIndX (d8 : Byte)
  | dcpZp (d8 : Byte)
  | dcpAbs (a16 : Word)
  | dcpIndY (d8 : Byte)
  | dcpZpX (d8 : Byte)
  | dcpAbsY (a16 : Word)
  | dcpAbsX (a16 : Word)
  | iscIndX (d8 : Byte)
  | iscZp (d8 : Byte)
  | iscAbs (a16 : Word)
  | iscIndY (d8 : Byte)
  | iscZpX (d8 : Byte)
  | iscAbsY (a16 : Word)
  | iscAbsX (a16 : Word)
  | rlaIndX (d8 : Byte)
  | rlaZp (d8 : Byte)
  | rlaAbs (a16 : Word)
  | rlaIndY (d8 : Byte)
  | rlaZpX (d8 : Byte)
  | rlaAbsY (a16 : Word)
  | rlaAbsX (a16 : Word)
  | rraIndX (d8 : Byte)
  | rraZp (d8 : Byte)
  | rraAbs (a16 : Word)
  | rraIndY (d8 : Byte)
  | rraZpX (d8 : Byte)
  | rraAbsY (a16 : Word)
  | rraAbsX (a16 : Word)
  | sloIndX (d8 : Byte)
  | sloZp (d8 : Byte)
  | sloAbs (a16 : Word)
  | sloIndY (d8 : Byte)
  | sloZpX (d8 : Byte)
  | sloAbsY (a16 : Word)
  | sloAbsX (a16 : Word)
  | sreIndX (d8 : Byte)
  | sreZp (d8 : Byte)
  | sreAbs (a16 : Word)
  | sreIndY (d8 : Byte)
  | sreZpX (d8 : Byte)
  | sreAbsY (a16 : Word)
  | sreAbsX (a16 : Word)
  | skbImm80 (d8 : Byte)
  | skbImm82 (d8 : Byte)
  | skbImm89 (d8 : Byte)
  | skbImmC2 (d8 : Byte)
  | skbImmE2 (d8 : Byte)
  | ignZp04 (d8 : Byte)
  | ignAbs (a16 : Word)
  | ignZpX14 (d8 : Byte)
  | ignAbsX1C (a16 : Word)
  | ignZpX34 (d8 : Byte)
  | ignAbsX3C (a16 : Word)
  | ignZp44 (d8 : Byte)
  | ignZpX54 (d8 : Byte)
  | ignAbsX5C (a16 : Word)
  | ignZp64 (d8 : Byte)
  | ignZpX74 (d8 : Byte)
  | ignAbsX7C (a16 : Word)
  | ignZpXD4 (d8 : Byte)
  | ignAbsXDC (a16 : Word)
  | ignZpXF4 (d8 : Byte)
  | ignAbsXFC (a16 : Word)
  deriving DecidableEq, Repr

end Sys2Proof
end

