-- ==== Sys2Proof/WellFormed.lean ====
section
/-! DEFINITION. Which terms of Instr an encoding exists for. Operand bytes and words have their width in their type;
the one thing left to check is the range of a branch's displacement (30_encoding.md R82: -128..+127). -/

namespace Sys2Proof

/-- The range of a signed 8-bit displacement (30_encoding.md R82, 41_addressing_modes.md R130). -/
def displacementInRange (offset : Int) : Bool :=
  decide (-128 ≤ offset) && decide (offset ≤ 127)

/-- A branch's displacement fits its d8; every other term is well-formed by its types. -/
def Instr.wellFormed : Instr → Bool
  | .bpl offset => displacementInRange offset
  | .bmi offset => displacementInRange offset
  | .bvc offset => displacementInRange offset
  | .bvs offset => displacementInRange offset
  | .bcc offset => displacementInRange offset
  | .bcs offset => displacementInRange offset
  | .bne offset => displacementInRange offset
  | .beq offset => displacementInRange offset
  | .brk | .oraIndX _ | .sloIndX _ | .ignZp04 _ | .oraZp _ | .aslZp _ | .sloZp _ | .php | .oraImm _ | .aslAcc | .ancImm0B _
  | .ignAbs _ | .oraAbs _ | .aslAbs _ | .sloAbs _ | .oraIndY _ | .sloIndY _ | .ignZpX14 _ | .oraZpX _ | .aslZpX _ |
    .sloZpX _ | .clc | .oraAbsY _ | .sloAbsY _ | .ignAbsX1C _ | .oraAbsX _ | .aslAbsX _ | .sloAbsX _ | .jsrAbs _ | .andIndX _
  | .rlaIndX _ | .bitZp _ | .andZp _ | .rolZp _ | .rlaZp _ | .plp | .andImm _ | .rolAcc | .ancImm2B _ | .bitAbs _ |
    .andAbs _ | .rolAbs _ | .rlaAbs _ | .andIndY _ | .rlaIndY _ | .ignZpX34 _ | .andZpX _ | .rolZpX _ | .rlaZpX _ | .sec |
    .andAbsY _ | .rlaAbsY _ | .ignAbsX3C _ | .andAbsX _ | .rolAbsX _ | .rlaAbsX _ | .rti | .eorIndX _ | .sreIndX _ |
    .ignZp44 _ | .eorZp _ | .lsrZp _ | .sreZp _ | .pha | .eorImm _ | .lsrAcc | .alrImm _ | .jmpAbs _ | .eorAbs _ | .lsrAbs _
  | .sreAbs _ | .eorIndY _ | .sreIndY _ | .ignZpX54 _ | .eorZpX _ | .lsrZpX _ | .sreZpX _ | .cli | .eorAbsY _ | .sreAbsY _
  | .ignAbsX5C _ | .eorAbsX _ | .lsrAbsX _ | .sreAbsX _ | .rts | .adcIndX _ | .rraIndX _ | .ignZp64 _ | .adcZp _ | .rorZp _
  | .rraZp _ | .pla | .adcImm _ | .rorAcc | .arrImm _ | .jmpInd _ | .adcAbs _ | .rorAbs _ | .rraAbs _ | .adcIndY _ |
    .rraIndY _ | .ignZpX74 _ | .adcZpX _ | .rorZpX _ | .rraZpX _ | .sei | .adcAbsY _ | .rraAbsY _ | .ignAbsX7C _ | .adcAbsX _
  | .rorAbsX _ | .rraAbsX _ | .skbImm80 _ | .staIndX _ | .skbImm82 _ | .saxIndX _ | .styZp _ | .staZp _ | .stxZp _ |
    .saxZp _ | .dey | .skbImm89 _ | .txa | .styAbs _ | .staAbs _ | .stxAbs _ | .saxAbs _ | .staIndY _ | .styZpX _ | .staZpX _
  | .stxZpY _ | .saxZpY _ | .tya | .staAbsY _ | .txs | .staAbsX _ | .ldyImm _ | .ldaIndX _ | .ldxImm _ | .laxIndX _ |
    .ldyZp _ | .ldaZp _ | .ldxZp _ | .laxZp _ | .tay | .ldaImm _ | .tax | .ldyAbs _ | .ldaAbs _ | .ldxAbs _ | .laxAbs _ |
    .ldaIndY _ | .laxIndY _ | .ldyZpX _ | .ldaZpX _ | .ldxZpY _ | .laxZpY _ | .clv | .ldaAbsY _ | .tsx | .ldyAbsX _ |
    .ldaAbsX _ | .ldxAbsY _ | .laxAbsY _ | .cpyImm _ | .cmpIndX _ | .skbImmC2 _ | .dcpIndX _ | .cpyZp _ | .cmpZp _ | .decZp _
  | .dcpZp _ | .iny | .cmpImm _ | .dex | .axsImm _ | .cpyAbs _ | .cmpAbs _ | .decAbs _ | .dcpAbs _ | .cmpIndY _ |
    .dcpIndY _ | .ignZpXD4 _ | .cmpZpX _ | .decZpX _ | .dcpZpX _ | .cld | .cmpAbsY _ | .dcpAbsY _ | .ignAbsXDC _ | .cmpAbsX _
  | .decAbsX _ | .dcpAbsX _ | .cpxImm _ | .sbcIndX _ | .skbImmE2 _ | .iscIndX _ | .cpxZp _ | .sbcZp _ | .incZp _ | .iscZp _
  | .inx | .sbcImm _ | .nop | .cpxAbs _ | .sbcAbs _ | .incAbs _ | .iscAbs _ | .sbcIndY _ | .iscIndY _ | .ignZpXF4 _ |
    .sbcZpX _ | .incZpX _ | .iscZpX _ | .sed | .sbcAbsY _ | .iscAbsY _ | .ignAbsXFC _ | .sbcAbsX _ | .incAbsX _ | .iscAbsX _ => true

end Sys2Proof
end

