-- ==== Sys2Proof/Decode.lean ====
section
/-! DEFINITION. The opcode decoder (30_encoding.md R83 to R88): the opcode matrix, the decoder from bytes to
instructions, and the encoder, both from the tables of R84 and R85. -/

namespace Sys2Proof

/-- What an opcode byte says of its instruction: the constructor, and by its format (30_encoding.md R80) the operand
bytes that follow: none (OP), one (OP_D8), or two, low byte first (OP_A16). -/
inductive Shape where
  | op (i : Instr)
  | d8 (make : Byte → Instr)
  | a16 (make : Word → Instr)

/-- The formats' descriptive triple, with the opcode byte that selects it: a row of R84 or R85. -/
structure Row where
  byte : Byte
  operation : Operation
  mode : Mode
  baseCycles : Nat
  deriving DecidableEq, Repr

/-- A relative operand byte read as the signed displacement of 30_encoding.md R82. -/
def displacementOf (d8 : Byte) : Int := d8.toInt

/-- The operand byte of a displacement: its low eight bits in two's complement (30_encoding.md R82). -/
def displacementByte (offset : Int) : Byte := BitVec.ofInt 8 offset

/-- The opcode matrix (30_encoding.md R84 to R86, part 4), row 0x, by the low nibble. -/
def matrixRow0 (lo : Nat) : Option Shape :=
  match lo with
  | 0x0 => some (.op .brk)
  | 0x1 => some (.d8 .oraIndX)
  | 0x3 => some (.d8 .sloIndX)
  | 0x4 => some (.d8 .ignZp04)
  | 0x5 => some (.d8 .oraZp)
  | 0x6 => some (.d8 .aslZp)
  | 0x7 => some (.d8 .sloZp)
  | 0x8 => some (.op .php)
  | 0x9 => some (.d8 .oraImm)
  | 0xA => some (.op .aslAcc)
  | 0xB => some (.d8 .ancImm0B)
  | 0xC => some (.a16 .ignAbs)
  | 0xD => some (.a16 .oraAbs)
  | 0xE => some (.a16 .aslAbs)
  | 0xF => some (.a16 .sloAbs)
  | _ => none

/-- The opcode matrix (30_encoding.md R84 to R86, part 4), row 1x, by the low nibble. -/
def matrixRow1 (lo : Nat) : Option Shape :=
  match lo with
  | 0x0 => some (.d8 fun d => .bpl (displacementOf d))
  | 0x1 => some (.d8 .oraIndY)
  | 0x3 => some (.d8 .sloIndY)
  | 0x4 => some (.d8 .ignZpX14)
  | 0x5 => some (.d8 .oraZpX)
  | 0x6 => some (.d8 .aslZpX)
  | 0x7 => some (.d8 .sloZpX)
  | 0x8 => some (.op .clc)
  | 0x9 => some (.a16 .oraAbsY)
  | 0xB => some (.a16 .sloAbsY)
  | 0xC => some (.a16 .ignAbsX1C)
  | 0xD => some (.a16 .oraAbsX)
  | 0xE => some (.a16 .aslAbsX)
  | 0xF => some (.a16 .sloAbsX)
  | _ => none

/-- The opcode matrix (30_encoding.md R84 to R86, part 4), row 2x, by the low nibble. -/
def matrixRow2 (lo : Nat) : Option Shape :=
  match lo with
  | 0x0 => some (.a16 .jsrAbs)
  | 0x1 => some (.d8 .andIndX)
  | 0x3 => some (.d8 .rlaIndX)
  | 0x4 => some (.d8 .bitZp)
  | 0x5 => some (.d8 .andZp)
  | 0x6 => some (.d8 .rolZp)
  | 0x7 => some (.d8 .rlaZp)
  | 0x8 => some (.op .plp)
  | 0x9 => some (.d8 .andImm)
  | 0xA => some (.op .rolAcc)
  | 0xB => some (.d8 .ancImm2B)
  | 0xC => some (.a16 .bitAbs)
  | 0xD => some (.a16 .andAbs)
  | 0xE => some (.a16 .rolAbs)
  | 0xF => some (.a16 .rlaAbs)
  | _ => none

/-- The opcode matrix (30_encoding.md R84 to R86, part 4), row 3x, by the low nibble. -/
def matrixRow3 (lo : Nat) : Option Shape :=
  match lo with
  | 0x0 => some (.d8 fun d => .bmi (displacementOf d))
  | 0x1 => some (.d8 .andIndY)
  | 0x3 => some (.d8 .rlaIndY)
  | 0x4 => some (.d8 .ignZpX34)
  | 0x5 => some (.d8 .andZpX)
  | 0x6 => some (.d8 .rolZpX)
  | 0x7 => some (.d8 .rlaZpX)
  | 0x8 => some (.op .sec)
  | 0x9 => some (.a16 .andAbsY)
  | 0xB => some (.a16 .rlaAbsY)
  | 0xC => some (.a16 .ignAbsX3C)
  | 0xD => some (.a16 .andAbsX)
  | 0xE => some (.a16 .rolAbsX)
  | 0xF => some (.a16 .rlaAbsX)
  | _ => none

/-- The opcode matrix (30_encoding.md R84 to R86, part 4), row 4x, by the low nibble. -/
def matrixRow4 (lo : Nat) : Option Shape :=
  match lo with
  | 0x0 => some (.op .rti)
  | 0x1 => some (.d8 .eorIndX)
  | 0x3 => some (.d8 .sreIndX)
  | 0x4 => some (.d8 .ignZp44)
  | 0x5 => some (.d8 .eorZp)
  | 0x6 => some (.d8 .lsrZp)
  | 0x7 => some (.d8 .sreZp)
  | 0x8 => some (.op .pha)
  | 0x9 => some (.d8 .eorImm)
  | 0xA => some (.op .lsrAcc)
  | 0xB => some (.d8 .alrImm)
  | 0xC => some (.a16 .jmpAbs)
  | 0xD => some (.a16 .eorAbs)
  | 0xE => some (.a16 .lsrAbs)
  | 0xF => some (.a16 .sreAbs)
  | _ => none

/-- The opcode matrix (30_encoding.md R84 to R86, part 4), row 5x, by the low nibble. -/
def matrixRow5 (lo : Nat) : Option Shape :=
  match lo with
  | 0x0 => some (.d8 fun d => .bvc (displacementOf d))
  | 0x1 => some (.d8 .eorIndY)
  | 0x3 => some (.d8 .sreIndY)
  | 0x4 => some (.d8 .ignZpX54)
  | 0x5 => some (.d8 .eorZpX)
  | 0x6 => some (.d8 .lsrZpX)
  | 0x7 => some (.d8 .sreZpX)
  | 0x8 => some (.op .cli)
  | 0x9 => some (.a16 .eorAbsY)
  | 0xB => some (.a16 .sreAbsY)
  | 0xC => some (.a16 .ignAbsX5C)
  | 0xD => some (.a16 .eorAbsX)
  | 0xE => some (.a16 .lsrAbsX)
  | 0xF => some (.a16 .sreAbsX)
  | _ => none

/-- The opcode matrix (30_encoding.md R84 to R86, part 4), row 6x, by the low nibble. -/
def matrixRow6 (lo : Nat) : Option Shape :=
  match lo with
  | 0x0 => some (.op .rts)
  | 0x1 => some (.d8 .adcIndX)
  | 0x3 => some (.d8 .rraIndX)
  | 0x4 => some (.d8 .ignZp64)
  | 0x5 => some (.d8 .adcZp)
  | 0x6 => some (.d8 .rorZp)
  | 0x7 => some (.d8 .rraZp)
  | 0x8 => some (.op .pla)
  | 0x9 => some (.d8 .adcImm)
  | 0xA => some (.op .rorAcc)
  | 0xB => some (.d8 .arrImm)
  | 0xC => some (.a16 .jmpInd)
  | 0xD => some (.a16 .adcAbs)
  | 0xE => some (.a16 .rorAbs)
  | 0xF => some (.a16 .rraAbs)
  | _ => none

/-- The opcode matrix (30_encoding.md R84 to R86, part 4), row 7x, by the low nibble. -/
def matrixRow7 (lo : Nat) : Option Shape :=
  match lo with
  | 0x0 => some (.d8 fun d => .bvs (displacementOf d))
  | 0x1 => some (.d8 .adcIndY)
  | 0x3 => some (.d8 .rraIndY)
  | 0x4 => some (.d8 .ignZpX74)
  | 0x5 => some (.d8 .adcZpX)
  | 0x6 => some (.d8 .rorZpX)
  | 0x7 => some (.d8 .rraZpX)
  | 0x8 => some (.op .sei)
  | 0x9 => some (.a16 .adcAbsY)
  | 0xB => some (.a16 .rraAbsY)
  | 0xC => some (.a16 .ignAbsX7C)
  | 0xD => some (.a16 .adcAbsX)
  | 0xE => some (.a16 .rorAbsX)
  | 0xF => some (.a16 .rraAbsX)
  | _ => none

/-- The opcode matrix (30_encoding.md R84 to R86, part 4), row 8x, by the low nibble. -/
def matrixRow8 (lo : Nat) : Option Shape :=
  match lo with
  | 0x0 => some (.d8 .skbImm80)
  | 0x1 => some (.d8 .staIndX)
  | 0x2 => some (.d8 .skbImm82)
  | 0x3 => some (.d8 .saxIndX)
  | 0x4 => some (.d8 .styZp)
  | 0x5 => some (.d8 .staZp)
  | 0x6 => some (.d8 .stxZp)
  | 0x7 => some (.d8 .saxZp)
  | 0x8 => some (.op .dey)
  | 0x9 => some (.d8 .skbImm89)
  | 0xA => some (.op .txa)
  | 0xC => some (.a16 .styAbs)
  | 0xD => some (.a16 .staAbs)
  | 0xE => some (.a16 .stxAbs)
  | 0xF => some (.a16 .saxAbs)
  | _ => none

/-- The opcode matrix (30_encoding.md R84 to R86, part 4), row 9x, by the low nibble. -/
def matrixRow9 (lo : Nat) : Option Shape :=
  match lo with
  | 0x0 => some (.d8 fun d => .bcc (displacementOf d))
  | 0x1 => some (.d8 .staIndY)
  | 0x4 => some (.d8 .styZpX)
  | 0x5 => some (.d8 .staZpX)
  | 0x6 => some (.d8 .stxZpY)
  | 0x7 => some (.d8 .saxZpY)
  | 0x8 => some (.op .tya)
  | 0x9 => some (.a16 .staAbsY)
  | 0xA => some (.op .txs)
  | 0xD => some (.a16 .staAbsX)
  | _ => none

/-- The opcode matrix (30_encoding.md R84 to R86, part 4), row Ax, by the low nibble. -/
def matrixRowA (lo : Nat) : Option Shape :=
  match lo with
  | 0x0 => some (.d8 .ldyImm)
  | 0x1 => some (.d8 .ldaIndX)
  | 0x2 => some (.d8 .ldxImm)
  | 0x3 => some (.d8 .laxIndX)
  | 0x4 => some (.d8 .ldyZp)
  | 0x5 => some (.d8 .ldaZp)
  | 0x6 => some (.d8 .ldxZp)
  | 0x7 => some (.d8 .laxZp)
  | 0x8 => some (.op .tay)
  | 0x9 => some (.d8 .ldaImm)
  | 0xA => some (.op .tax)
  | 0xC => some (.a16 .ldyAbs)
  | 0xD => some (.a16 .ldaAbs)
  | 0xE => some (.a16 .ldxAbs)
  | 0xF => some (.a16 .laxAbs)
  | _ => none

/-- The opcode matrix (30_encoding.md R84 to R86, part 4), row Bx, by the low nibble. -/
def matrixRowB (lo : Nat) : Option Shape :=
  match lo with
  | 0x0 => some (.d8 fun d => .bcs (displacementOf d))
  | 0x1 => some (.d8 .ldaIndY)
  | 0x3 => some (.d8 .laxIndY)
  | 0x4 => some (.d8 .ldyZpX)
  | 0x5 => some (.d8 .ldaZpX)
  | 0x6 => some (.d8 .ldxZpY)
  | 0x7 => some (.d8 .laxZpY)
  | 0x8 => some (.op .clv)
  | 0x9 => some (.a16 .ldaAbsY)
  | 0xA => some (.op .tsx)
  | 0xC => some (.a16 .ldyAbsX)
  | 0xD => some (.a16 .ldaAbsX)
  | 0xE => some (.a16 .ldxAbsY)
  | 0xF => some (.a16 .laxAbsY)
  | _ => none

/-- The opcode matrix (30_encoding.md R84 to R86, part 4), row Cx, by the low nibble. -/
def matrixRowC (lo : Nat) : Option Shape :=
  match lo with
  | 0x0 => some (.d8 .cpyImm)
  | 0x1 => some (.d8 .cmpIndX)
  | 0x2 => some (.d8 .skbImmC2)
  | 0x3 => some (.d8 .dcpIndX)
  | 0x4 => some (.d8 .cpyZp)
  | 0x5 => some (.d8 .cmpZp)
  | 0x6 => some (.d8 .decZp)
  | 0x7 => some (.d8 .dcpZp)
  | 0x8 => some (.op .iny)
  | 0x9 => some (.d8 .cmpImm)
  | 0xA => some (.op .dex)
  | 0xB => some (.d8 .axsImm)
  | 0xC => some (.a16 .cpyAbs)
  | 0xD => some (.a16 .cmpAbs)
  | 0xE => some (.a16 .decAbs)
  | 0xF => some (.a16 .dcpAbs)
  | _ => none

/-- The opcode matrix (30_encoding.md R84 to R86, part 4), row Dx, by the low nibble. -/
def matrixRowD (lo : Nat) : Option Shape :=
  match lo with
  | 0x0 => some (.d8 fun d => .bne (displacementOf d))
  | 0x1 => some (.d8 .cmpIndY)
  | 0x3 => some (.d8 .dcpIndY)
  | 0x4 => some (.d8 .ignZpXD4)
  | 0x5 => some (.d8 .cmpZpX)
  | 0x6 => some (.d8 .decZpX)
  | 0x7 => some (.d8 .dcpZpX)
  | 0x8 => some (.op .cld)
  | 0x9 => some (.a16 .cmpAbsY)
  | 0xB => some (.a16 .dcpAbsY)
  | 0xC => some (.a16 .ignAbsXDC)
  | 0xD => some (.a16 .cmpAbsX)
  | 0xE => some (.a16 .decAbsX)
  | 0xF => some (.a16 .dcpAbsX)
  | _ => none

/-- The opcode matrix (30_encoding.md R84 to R86, part 4), row Ex, by the low nibble. -/
def matrixRowE (lo : Nat) : Option Shape :=
  match lo with
  | 0x0 => some (.d8 .cpxImm)
  | 0x1 => some (.d8 .sbcIndX)
  | 0x2 => some (.d8 .skbImmE2)
  | 0x3 => some (.d8 .iscIndX)
  | 0x4 => some (.d8 .cpxZp)
  | 0x5 => some (.d8 .sbcZp)
  | 0x6 => some (.d8 .incZp)
  | 0x7 => some (.d8 .iscZp)
  | 0x8 => some (.op .inx)
  | 0x9 => some (.d8 .sbcImm)
  | 0xA => some (.op .nop)
  | 0xC => some (.a16 .cpxAbs)
  | 0xD => some (.a16 .sbcAbs)
  | 0xE => some (.a16 .incAbs)
  | 0xF => some (.a16 .iscAbs)
  | _ => none

/-- The opcode matrix (30_encoding.md R84 to R86, part 4), row Fx, by the low nibble. -/
def matrixRowF (lo : Nat) : Option Shape :=
  match lo with
  | 0x0 => some (.d8 fun d => .beq (displacementOf d))
  | 0x1 => some (.d8 .sbcIndY)
  | 0x3 => some (.d8 .iscIndY)
  | 0x4 => some (.d8 .ignZpXF4)
  | 0x5 => some (.d8 .sbcZpX)
  | 0x6 => some (.d8 .incZpX)
  | 0x7 => some (.d8 .iscZpX)
  | 0x8 => some (.op .sed)
  | 0x9 => some (.a16 .sbcAbsY)
  | 0xB => some (.a16 .iscAbsY)
  | 0xC => some (.a16 .ignAbsXFC)
  | 0xD => some (.a16 .sbcAbsX)
  | 0xE => some (.a16 .incAbsX)
  | 0xF => some (.a16 .iscAbsX)
  | _ => none

/-- The opcode map: `none` is the verdict `unassigned` (30_encoding.md R83, R86). -/
def shapeOf (b : Byte) : Option Shape :=
  let lo := b.toNat % 16
  match b.toNat / 16 with
  | 0x0 => matrixRow0 lo
  | 0x1 => matrixRow1 lo
  | 0x2 => matrixRow2 lo
  | 0x3 => matrixRow3 lo
  | 0x4 => matrixRow4 lo
  | 0x5 => matrixRow5 lo
  | 0x6 => matrixRow6 lo
  | 0x7 => matrixRow7 lo
  | 0x8 => matrixRow8 lo
  | 0x9 => matrixRow9 lo
  | 0xA => matrixRowA lo
  | 0xB => matrixRowB lo
  | 0xC => matrixRowC lo
  | 0xD => matrixRowD lo
  | 0xE => matrixRowE lo
  | 0xF => matrixRowF lo
  | _ => none

/-- Why bytes are no instruction. -/
inductive DecodeError where
  /-- no byte at all -/
  | noBytes
  /-- the opcode byte is one of the 27 of 30_encoding.md R86 -/
  | unassigned (b : Byte)
  /-- fewer bytes than the length of 30_encoding.md R81 -/
  | truncated (b : Byte)
  deriving DecidableEq, Repr

/-- One instruction from the front of a byte stream, with the bytes that follow it (30_encoding.md R80 to R83). -/
def decode : List Byte → Except DecodeError (Instr × List Byte)
  | [] => .error .noBytes
  | b :: rest =>
    match shapeOf b, rest with
    | none, _ => .error (.unassigned b)
    | some (.op i), rest => .ok (i, rest)
    | some (.d8 make), d :: rest => .ok (make d, rest)
    | some (.d8 _), [] => .error (.truncated b)
    | some (.a16 make), lo :: hi :: rest => .ok (make (hi ++ lo), rest)
    | some (.a16 _), _ => .error (.truncated b)

/-- The row of R84 or R85 an instruction stands for. -/
def Instr.row : Instr → Row
  -- Binary ALU (42_alu.md)
  | .adcIndX _ => ⟨0x61#8, .adc, .indirectX, 6⟩
  | .adcZp _ => ⟨0x65#8, .adc, .zeroPage, 3⟩
  | .adcImm _ => ⟨0x69#8, .adc, .immediate, 2⟩
  | .adcAbs _ => ⟨0x6D#8, .adc, .absolute, 4⟩
  | .adcIndY _ => ⟨0x71#8, .adc, .indirectY, 5⟩
  | .adcZpX _ => ⟨0x75#8, .adc, .zeroPageX, 4⟩
  | .adcAbsY _ => ⟨0x79#8, .adc, .absoluteY, 4⟩
  | .adcAbsX _ => ⟨0x7D#8, .adc, .absoluteX, 4⟩
  | .sbcIndX _ => ⟨0xE1#8, .sbc, .indirectX, 6⟩
  | .sbcZp _ => ⟨0xE5#8, .sbc, .zeroPage, 3⟩
  | .sbcImm _ => ⟨0xE9#8, .sbc, .immediate, 2⟩
  | .sbcAbs _ => ⟨0xED#8, .sbc, .absolute, 4⟩
  | .sbcIndY _ => ⟨0xF1#8, .sbc, .indirectY, 5⟩
  | .sbcZpX _ => ⟨0xF5#8, .sbc, .zeroPageX, 4⟩
  | .sbcAbsY _ => ⟨0xF9#8, .sbc, .absoluteY, 4⟩
  | .sbcAbsX _ => ⟨0xFD#8, .sbc, .absoluteX, 4⟩
  | .andIndX _ => ⟨0x21#8, .and, .indirectX, 6⟩
  | .andZp _ => ⟨0x25#8, .and, .zeroPage, 3⟩
  | .andImm _ => ⟨0x29#8, .and, .immediate, 2⟩
  | .andAbs _ => ⟨0x2D#8, .and, .absolute, 4⟩
  | .andIndY _ => ⟨0x31#8, .and, .indirectY, 5⟩
  | .andZpX _ => ⟨0x35#8, .and, .zeroPageX, 4⟩
  | .andAbsY _ => ⟨0x39#8, .and, .absoluteY, 4⟩
  | .andAbsX _ => ⟨0x3D#8, .and, .absoluteX, 4⟩
  | .eorIndX _ => ⟨0x41#8, .eor, .indirectX, 6⟩
  | .eorZp _ => ⟨0x45#8, .eor, .zeroPage, 3⟩
  | .eorImm _ => ⟨0x49#8, .eor, .immediate, 2⟩
  | .eorAbs _ => ⟨0x4D#8, .eor, .absolute, 4⟩
  | .eorIndY _ => ⟨0x51#8, .eor, .indirectY, 5⟩
  | .eorZpX _ => ⟨0x55#8, .eor, .zeroPageX, 4⟩
  | .eorAbsY _ => ⟨0x59#8, .eor, .absoluteY, 4⟩
  | .eorAbsX _ => ⟨0x5D#8, .eor, .absoluteX, 4⟩
  | .oraIndX _ => ⟨0x01#8, .ora, .indirectX, 6⟩
  | .oraZp _ => ⟨0x05#8, .ora, .zeroPage, 3⟩
  | .oraImm _ => ⟨0x09#8, .ora, .immediate, 2⟩
  | .oraAbs _ => ⟨0x0D#8, .ora, .absolute, 4⟩
  | .oraIndY _ => ⟨0x11#8, .ora, .indirectY, 5⟩
  | .oraZpX _ => ⟨0x15#8, .ora, .zeroPageX, 4⟩
  | .oraAbsY _ => ⟨0x19#8, .ora, .absoluteY, 4⟩
  | .oraAbsX _ => ⟨0x1D#8, .ora, .absoluteX, 4⟩
  -- Shifts, rotates, increments, decrements (43_shift_incdec.md)
  | .aslZp _ => ⟨0x06#8, .asl, .zeroPage, 5⟩
  | .aslAcc => ⟨0x0A#8, .asl, .accumulator, 2⟩
  | .aslAbs _ => ⟨0x0E#8, .asl, .absolute, 6⟩
  | .aslZpX _ => ⟨0x16#8, .asl, .zeroPageX, 6⟩
  | .aslAbsX _ => ⟨0x1E#8, .asl, .absoluteX, 7⟩
  | .lsrZp _ => ⟨0x46#8, .lsr, .zeroPage, 5⟩
  | .lsrAcc => ⟨0x4A#8, .lsr, .accumulator, 2⟩
  | .lsrAbs _ => ⟨0x4E#8, .lsr, .absolute, 6⟩
  | .lsrZpX _ => ⟨0x56#8, .lsr, .zeroPageX, 6⟩
  | .lsrAbsX _ => ⟨0x5E#8, .lsr, .absoluteX, 7⟩
  | .rolZp _ => ⟨0x26#8, .rol, .zeroPage, 5⟩
  | .rolAcc => ⟨0x2A#8, .rol, .accumulator, 2⟩
  | .rolAbs _ => ⟨0x2E#8, .rol, .absolute, 6⟩
  | .rolZpX _ => ⟨0x36#8, .rol, .zeroPageX, 6⟩
  | .rolAbsX _ => ⟨0x3E#8, .rol, .absoluteX, 7⟩
  | .rorZp _ => ⟨0x66#8, .ror, .zeroPage, 5⟩
  | .rorAcc => ⟨0x6A#8, .ror, .accumulator, 2⟩
  | .rorAbs _ => ⟨0x6E#8, .ror, .absolute, 6⟩
  | .rorZpX _ => ⟨0x76#8, .ror, .zeroPageX, 6⟩
  | .rorAbsX _ => ⟨0x7E#8, .ror, .absoluteX, 7⟩
  | .incZp _ => ⟨0xE6#8, .inc, .zeroPage, 5⟩
  | .incAbs _ => ⟨0xEE#8, .inc, .absolute, 6⟩
  | .incZpX _ => ⟨0xF6#8, .inc, .zeroPageX, 6⟩
  | .incAbsX _ => ⟨0xFE#8, .inc, .absoluteX, 7⟩
  | .decZp _ => ⟨0xC6#8, .dec, .zeroPage, 5⟩
  | .decAbs _ => ⟨0xCE#8, .dec, .absolute, 6⟩
  | .decZpX _ => ⟨0xD6#8, .dec, .zeroPageX, 6⟩
  | .decAbsX _ => ⟨0xDE#8, .dec, .absoluteX, 7⟩
  | .inx => ⟨0xE8#8, .inx, .implied, 2⟩
  | .iny => ⟨0xC8#8, .iny, .implied, 2⟩
  | .dex => ⟨0xCA#8, .dex, .implied, 2⟩
  | .dey => ⟨0x88#8, .dey, .implied, 2⟩
  -- Loads and stores (44_load_store.md)
  | .ldaIndX _ => ⟨0xA1#8, .lda, .indirectX, 6⟩
  | .ldaZp _ => ⟨0xA5#8, .lda, .zeroPage, 3⟩
  | .ldaImm _ => ⟨0xA9#8, .lda, .immediate, 2⟩
  | .ldaAbs _ => ⟨0xAD#8, .lda, .absolute, 4⟩
  | .ldaIndY _ => ⟨0xB1#8, .lda, .indirectY, 5⟩
  | .ldaZpX _ => ⟨0xB5#8, .lda, .zeroPageX, 4⟩
  | .ldaAbsY _ => ⟨0xB9#8, .lda, .absoluteY, 4⟩
  | .ldaAbsX _ => ⟨0xBD#8, .lda, .absoluteX, 4⟩
  | .ldxImm _ => ⟨0xA2#8, .ldx, .immediate, 2⟩
  | .ldxZp _ => ⟨0xA6#8, .ldx, .zeroPage, 3⟩
  | .ldxAbs _ => ⟨0xAE#8, .ldx, .absolute, 4⟩
  | .ldxZpY _ => ⟨0xB6#8, .ldx, .zeroPageY, 4⟩
  | .ldxAbsY _ => ⟨0xBE#8, .ldx, .absoluteY, 4⟩
  | .ldyImm _ => ⟨0xA0#8, .ldy, .immediate, 2⟩
  | .ldyZp _ => ⟨0xA4#8, .ldy, .zeroPage, 3⟩
  | .ldyAbs _ => ⟨0xAC#8, .ldy, .absolute, 4⟩
  | .ldyZpX _ => ⟨0xB4#8, .ldy, .zeroPageX, 4⟩
  | .ldyAbsX _ => ⟨0xBC#8, .ldy, .absoluteX, 4⟩
  | .staIndX _ => ⟨0x81#8, .sta, .indirectX, 6⟩
  | .staZp _ => ⟨0x85#8, .sta, .zeroPage, 3⟩
  | .staAbs _ => ⟨0x8D#8, .sta, .absolute, 4⟩
  | .staIndY _ => ⟨0x91#8, .sta, .indirectY, 6⟩
  | .staZpX _ => ⟨0x95#8, .sta, .zeroPageX, 4⟩
  | .staAbsY _ => ⟨0x99#8, .sta, .absoluteY, 5⟩
  | .staAbsX _ => ⟨0x9D#8, .sta, .absoluteX, 5⟩
  | .stxZp _ => ⟨0x86#8, .stx, .zeroPage, 3⟩
  | .stxAbs _ => ⟨0x8E#8, .stx, .absolute, 4⟩
  | .stxZpY _ => ⟨0x96#8, .stx, .zeroPageY, 4⟩
  | .styZp _ => ⟨0x84#8, .sty, .zeroPage, 3⟩
  | .styAbs _ => ⟨0x8C#8, .sty, .absolute, 4⟩
  | .styZpX _ => ⟨0x94#8, .sty, .zeroPageX, 4⟩
  -- Flag instructions and compares (45_flags_compare.md)
  | .sec => ⟨0x38#8, .sec, .implied, 2⟩
  | .sed => ⟨0xF8#8, .sed, .implied, 2⟩
  | .sei => ⟨0x78#8, .sei, .implied, 2⟩
  | .clc => ⟨0x18#8, .clc, .implied, 2⟩
  | .cld => ⟨0xD8#8, .cld, .implied, 2⟩
  | .cli => ⟨0x58#8, .cli, .implied, 2⟩
  | .clv => ⟨0xB8#8, .clv, .implied, 2⟩
  | .cmpIndX _ => ⟨0xC1#8, .cmp, .indirectX, 6⟩
  | .cmpZp _ => ⟨0xC5#8, .cmp, .zeroPage, 3⟩
  | .cmpImm _ => ⟨0xC9#8, .cmp, .immediate, 2⟩
  | .cmpAbs _ => ⟨0xCD#8, .cmp, .absolute, 4⟩
  | .cmpIndY _ => ⟨0xD1#8, .cmp, .indirectY, 5⟩
  | .cmpZpX _ => ⟨0xD5#8, .cmp, .zeroPageX, 4⟩
  | .cmpAbsY _ => ⟨0xD9#8, .cmp, .absoluteY, 4⟩
  | .cmpAbsX _ => ⟨0xDD#8, .cmp, .absoluteX, 4⟩
  | .cpxImm _ => ⟨0xE0#8, .cpx, .immediate, 2⟩
  | .cpxZp _ => ⟨0xE4#8, .cpx, .zeroPage, 3⟩
  | .cpxAbs _ => ⟨0xEC#8, .cpx, .absolute, 4⟩
  | .cpyImm _ => ⟨0xC0#8, .cpy, .immediate, 2⟩
  | .cpyZp _ => ⟨0xC4#8, .cpy, .zeroPage, 3⟩
  | .cpyAbs _ => ⟨0xCC#8, .cpy, .absolute, 4⟩
  -- Control transfer and branches (46_control_transfer.md)
  | .jmpAbs _ => ⟨0x4C#8, .jmp, .absolute, 3⟩
  | .jmpInd _ => ⟨0x6C#8, .jmp, .indirect, 5⟩
  | .jsrAbs _ => ⟨0x20#8, .jsr, .absolute, 6⟩
  | .rti => ⟨0x40#8, .rti, .implied, 6⟩
  | .rts => ⟨0x60#8, .rts, .implied, 6⟩
  | .bcc _ => ⟨0x90#8, .bcc, .relative, 2⟩
  | .bcs _ => ⟨0xB0#8, .bcs, .relative, 2⟩
  | .beq _ => ⟨0xF0#8, .beq, .relative, 2⟩
  | .bne _ => ⟨0xD0#8, .bne, .relative, 2⟩
  | .bmi _ => ⟨0x30#8, .bmi, .relative, 2⟩
  | .bpl _ => ⟨0x10#8, .bpl, .relative, 2⟩
  | .bvc _ => ⟨0x50#8, .bvc, .relative, 2⟩
  | .bvs _ => ⟨0x70#8, .bvs, .relative, 2⟩
  -- Stack and transfers (47_stack_transfer.md)
  | .pha => ⟨0x48#8, .pha, .implied, 3⟩
  | .php => ⟨0x08#8, .php, .implied, 3⟩
  | .pla => ⟨0x68#8, .pla, .implied, 4⟩
  | .plp => ⟨0x28#8, .plp, .implied, 4⟩
  | .tax => ⟨0xAA#8, .tax, .implied, 2⟩
  | .tay => ⟨0xA8#8, .tay, .implied, 2⟩
  | .tsx => ⟨0xBA#8, .tsx, .implied, 2⟩
  | .txa => ⟨0x8A#8, .txa, .implied, 2⟩
  | .txs => ⟨0x9A#8, .txs, .implied, 2⟩
  | .tya => ⟨0x98#8, .tya, .implied, 2⟩
  -- System (48_system.md)
  | .brk => ⟨0x00#8, .brk, .implied, 7⟩
  | .bitZp _ => ⟨0x24#8, .bit, .zeroPage, 3⟩
  | .bitAbs _ => ⟨0x2C#8, .bit, .absolute, 4⟩
  | .nop => ⟨0xEA#8, .nop, .implied, 2⟩
  -- Unofficial (49_unofficial.md)
  | .alrImm _ => ⟨0x4B#8, .alr, .immediate, 2⟩
  | .ancImm0B _ => ⟨0x0B#8, .anc, .immediate, 2⟩
  | .ancImm2B _ => ⟨0x2B#8, .anc, .immediate, 2⟩
  | .arrImm _ => ⟨0x6B#8, .arr, .immediate, 2⟩
  | .axsImm _ => ⟨0xCB#8, .axs, .immediate, 2⟩
  | .laxIndX _ => ⟨0xA3#8, .lax, .indirectX, 6⟩
  | .laxZp _ => ⟨0xA7#8, .lax, .zeroPage, 3⟩
  | .laxAbs _ => ⟨0xAF#8, .lax, .absolute, 4⟩
  | .laxIndY _ => ⟨0xB3#8, .lax, .indirectY, 5⟩
  | .laxZpY _ => ⟨0xB7#8, .lax, .zeroPageY, 4⟩
  | .laxAbsY _ => ⟨0xBF#8, .lax, .absoluteY, 4⟩
  | .saxIndX _ => ⟨0x83#8, .sax, .indirectX, 6⟩
  | .saxZp _ => ⟨0x87#8, .sax, .zeroPage, 3⟩
  | .saxAbs _ => ⟨0x8F#8, .sax, .absolute, 4⟩
  | .saxZpY _ => ⟨0x97#8, .sax, .zeroPageY, 4⟩
  | .dcpIndX _ => ⟨0xC3#8, .dcp, .indirectX, 8⟩
  | .dcpZp _ => ⟨0xC7#8, .dcp, .zeroPage, 5⟩
  | .dcpAbs _ => ⟨0xCF#8, .dcp, .absolute, 6⟩
  | .dcpIndY _ => ⟨0xD3#8, .dcp, .indirectY, 8⟩
  | .dcpZpX _ => ⟨0xD7#8, .dcp, .zeroPageX, 6⟩
  | .dcpAbsY _ => ⟨0xDB#8, .dcp, .absoluteY, 7⟩
  | .dcpAbsX _ => ⟨0xDF#8, .dcp, .absoluteX, 7⟩
  | .iscIndX _ => ⟨0xE3#8, .isc, .indirectX, 8⟩
  | .iscZp _ => ⟨0xE7#8, .isc, .zeroPage, 5⟩
  | .iscAbs _ => ⟨0xEF#8, .isc, .absolute, 6⟩
  | .iscIndY _ => ⟨0xF3#8, .isc, .indirectY, 8⟩
  | .iscZpX _ => ⟨0xF7#8, .isc, .zeroPageX, 6⟩
  | .iscAbsY _ => ⟨0xFB#8, .isc, .absoluteY, 7⟩
  | .iscAbsX _ => ⟨0xFF#8, .isc, .absoluteX, 7⟩
  | .rlaIndX _ => ⟨0x23#8, .rla, .indirectX, 8⟩
  | .rlaZp _ => ⟨0x27#8, .rla, .zeroPage, 5⟩
  | .rlaAbs _ => ⟨0x2F#8, .rla, .absolute, 6⟩
  | .rlaIndY _ => ⟨0x33#8, .rla, .indirectY, 8⟩
  | .rlaZpX _ => ⟨0x37#8, .rla, .zeroPageX, 6⟩
  | .rlaAbsY _ => ⟨0x3B#8, .rla, .absoluteY, 7⟩
  | .rlaAbsX _ => ⟨0x3F#8, .rla, .absoluteX, 7⟩
  | .rraIndX _ => ⟨0x63#8, .rra, .indirectX, 8⟩
  | .rraZp _ => ⟨0x67#8, .rra, .zeroPage, 5⟩
  | .rraAbs _ => ⟨0x6F#8, .rra, .absolute, 6⟩
  | .rraIndY _ => ⟨0x73#8, .rra, .indirectY, 8⟩
  | .rraZpX _ => ⟨0x77#8, .rra, .zeroPageX, 6⟩
  | .rraAbsY _ => ⟨0x7B#8, .rra, .absoluteY, 7⟩
  | .rraAbsX _ => ⟨0x7F#8, .rra, .absoluteX, 7⟩
  | .sloIndX _ => ⟨0x03#8, .slo, .indirectX, 8⟩
  | .sloZp _ => ⟨0x07#8, .slo, .zeroPage, 5⟩
  | .sloAbs _ => ⟨0x0F#8, .slo, .absolute, 6⟩
  | .sloIndY _ => ⟨0x13#8, .slo, .indirectY, 8⟩
  | .sloZpX _ => ⟨0x17#8, .slo, .zeroPageX, 6⟩
  | .sloAbsY _ => ⟨0x1B#8, .slo, .absoluteY, 7⟩
  | .sloAbsX _ => ⟨0x1F#8, .slo, .absoluteX, 7⟩
  | .sreIndX _ => ⟨0x43#8, .sre, .indirectX, 8⟩
  | .sreZp _ => ⟨0x47#8, .sre, .zeroPage, 5⟩
  | .sreAbs _ => ⟨0x4F#8, .sre, .absolute, 6⟩
  | .sreIndY _ => ⟨0x53#8, .sre, .indirectY, 8⟩
  | .sreZpX _ => ⟨0x57#8, .sre, .zeroPageX, 6⟩
  | .sreAbsY _ => ⟨0x5B#8, .sre, .absoluteY, 7⟩
  | .sreAbsX _ => ⟨0x5F#8, .sre, .absoluteX, 7⟩
  | .skbImm80 _ => ⟨0x80#8, .skb, .immediate, 2⟩
  | .skbImm82 _ => ⟨0x82#8, .skb, .immediate, 2⟩
  | .skbImm89 _ => ⟨0x89#8, .skb, .immediate, 2⟩
  | .skbImmC2 _ => ⟨0xC2#8, .skb, .immediate, 2⟩
  | .skbImmE2 _ => ⟨0xE2#8, .skb, .immediate, 2⟩
  | .ignZp04 _ => ⟨0x04#8, .ign, .zeroPage, 3⟩
  | .ignAbs _ => ⟨0x0C#8, .ign, .absolute, 4⟩
  | .ignZpX14 _ => ⟨0x14#8, .ign, .zeroPageX, 4⟩
  | .ignAbsX1C _ => ⟨0x1C#8, .ign, .absoluteX, 4⟩
  | .ignZpX34 _ => ⟨0x34#8, .ign, .zeroPageX, 4⟩
  | .ignAbsX3C _ => ⟨0x3C#8, .ign, .absoluteX, 4⟩
  | .ignZp44 _ => ⟨0x44#8, .ign, .zeroPage, 3⟩
  | .ignZpX54 _ => ⟨0x54#8, .ign, .zeroPageX, 4⟩
  | .ignAbsX5C _ => ⟨0x5C#8, .ign, .absoluteX, 4⟩
  | .ignZp64 _ => ⟨0x64#8, .ign, .zeroPage, 3⟩
  | .ignZpX74 _ => ⟨0x74#8, .ign, .zeroPageX, 4⟩
  | .ignAbsX7C _ => ⟨0x7C#8, .ign, .absoluteX, 4⟩
  | .ignZpXD4 _ => ⟨0xD4#8, .ign, .zeroPageX, 4⟩
  | .ignAbsXDC _ => ⟨0xDC#8, .ign, .absoluteX, 4⟩
  | .ignZpXF4 _ => ⟨0xF4#8, .ign, .zeroPageX, 4⟩
  | .ignAbsXFC _ => ⟨0xFC#8, .ign, .absoluteX, 4⟩

/-- The operand of an instruction: its mode and the operand bytes of its stream (30_encoding.md R82). -/
def Instr.operand : Instr → Operand
  -- Binary ALU (42_alu.md)
  | .adcIndX d8 => .indirectX d8
  | .adcZp d8 => .zeroPage d8
  | .adcImm d8 => .immediate d8
  | .adcAbs a16 => .absolute a16
  | .adcIndY d8 => .indirectY d8
  | .adcZpX d8 => .zeroPageX d8
  | .adcAbsY a16 => .absoluteY a16
  | .adcAbsX a16 => .absoluteX a16
  | .sbcIndX d8 => .indirectX d8
  | .sbcZp d8 => .zeroPage d8
  | .sbcImm d8 => .immediate d8
  | .sbcAbs a16 => .absolute a16
  | .sbcIndY d8 => .indirectY d8
  | .sbcZpX d8 => .zeroPageX d8
  | .sbcAbsY a16 => .absoluteY a16
  | .sbcAbsX a16 => .absoluteX a16
  | .andIndX d8 => .indirectX d8
  | .andZp d8 => .zeroPage d8
  | .andImm d8 => .immediate d8
  | .andAbs a16 => .absolute a16
  | .andIndY d8 => .indirectY d8
  | .andZpX d8 => .zeroPageX d8
  | .andAbsY a16 => .absoluteY a16
  | .andAbsX a16 => .absoluteX a16
  | .eorIndX d8 => .indirectX d8
  | .eorZp d8 => .zeroPage d8
  | .eorImm d8 => .immediate d8
  | .eorAbs a16 => .absolute a16
  | .eorIndY d8 => .indirectY d8
  | .eorZpX d8 => .zeroPageX d8
  | .eorAbsY a16 => .absoluteY a16
  | .eorAbsX a16 => .absoluteX a16
  | .oraIndX d8 => .indirectX d8
  | .oraZp d8 => .zeroPage d8
  | .oraImm d8 => .immediate d8
  | .oraAbs a16 => .absolute a16
  | .oraIndY d8 => .indirectY d8
  | .oraZpX d8 => .zeroPageX d8
  | .oraAbsY a16 => .absoluteY a16
  | .oraAbsX a16 => .absoluteX a16
  -- Shifts, rotates, increments, decrements (43_shift_incdec.md)
  | .aslZp d8 => .zeroPage d8
  | .aslAcc => .accumulator
  | .aslAbs a16 => .absolute a16
  | .aslZpX d8 => .zeroPageX d8
  | .aslAbsX a16 => .absoluteX a16
  | .lsrZp d8 => .zeroPage d8
  | .lsrAcc => .accumulator
  | .lsrAbs a16 => .absolute a16
  | .lsrZpX d8 => .zeroPageX d8
  | .lsrAbsX a16 => .absoluteX a16
  | .rolZp d8 => .zeroPage d8
  | .rolAcc => .accumulator
  | .rolAbs a16 => .absolute a16
  | .rolZpX d8 => .zeroPageX d8
  | .rolAbsX a16 => .absoluteX a16
  | .rorZp d8 => .zeroPage d8
  | .rorAcc => .accumulator
  | .rorAbs a16 => .absolute a16
  | .rorZpX d8 => .zeroPageX d8
  | .rorAbsX a16 => .absoluteX a16
  | .incZp d8 => .zeroPage d8
  | .incAbs a16 => .absolute a16
  | .incZpX d8 => .zeroPageX d8
  | .incAbsX a16 => .absoluteX a16
  | .decZp d8 => .zeroPage d8
  | .decAbs a16 => .absolute a16
  | .decZpX d8 => .zeroPageX d8
  | .decAbsX a16 => .absoluteX a16
  | .inx => .implied
  | .iny => .implied
  | .dex => .implied
  | .dey => .implied
  -- Loads and stores (44_load_store.md)
  | .ldaIndX d8 => .indirectX d8
  | .ldaZp d8 => .zeroPage d8
  | .ldaImm d8 => .immediate d8
  | .ldaAbs a16 => .absolute a16
  | .ldaIndY d8 => .indirectY d8
  | .ldaZpX d8 => .zeroPageX d8
  | .ldaAbsY a16 => .absoluteY a16
  | .ldaAbsX a16 => .absoluteX a16
  | .ldxImm d8 => .immediate d8
  | .ldxZp d8 => .zeroPage d8
  | .ldxAbs a16 => .absolute a16
  | .ldxZpY d8 => .zeroPageY d8
  | .ldxAbsY a16 => .absoluteY a16
  | .ldyImm d8 => .immediate d8
  | .ldyZp d8 => .zeroPage d8
  | .ldyAbs a16 => .absolute a16
  | .ldyZpX d8 => .zeroPageX d8
  | .ldyAbsX a16 => .absoluteX a16
  | .staIndX d8 => .indirectX d8
  | .staZp d8 => .zeroPage d8
  | .staAbs a16 => .absolute a16
  | .staIndY d8 => .indirectY d8
  | .staZpX d8 => .zeroPageX d8
  | .staAbsY a16 => .absoluteY a16
  | .staAbsX a16 => .absoluteX a16
  | .stxZp d8 => .zeroPage d8
  | .stxAbs a16 => .absolute a16
  | .stxZpY d8 => .zeroPageY d8
  | .styZp d8 => .zeroPage d8
  | .styAbs a16 => .absolute a16
  | .styZpX d8 => .zeroPageX d8
  -- Flag instructions and compares (45_flags_compare.md)
  | .sec => .implied
  | .sed => .implied
  | .sei => .implied
  | .clc => .implied
  | .cld => .implied
  | .cli => .implied
  | .clv => .implied
  | .cmpIndX d8 => .indirectX d8
  | .cmpZp d8 => .zeroPage d8
  | .cmpImm d8 => .immediate d8
  | .cmpAbs a16 => .absolute a16
  | .cmpIndY d8 => .indirectY d8
  | .cmpZpX d8 => .zeroPageX d8
  | .cmpAbsY a16 => .absoluteY a16
  | .cmpAbsX a16 => .absoluteX a16
  | .cpxImm d8 => .immediate d8
  | .cpxZp d8 => .zeroPage d8
  | .cpxAbs a16 => .absolute a16
  | .cpyImm d8 => .immediate d8
  | .cpyZp d8 => .zeroPage d8
  | .cpyAbs a16 => .absolute a16
  -- Control transfer and branches (46_control_transfer.md)
  | .jmpAbs a16 => .absolute a16
  | .jmpInd a16 => .indirect a16
  | .jsrAbs a16 => .absolute a16
  | .rti => .implied
  | .rts => .implied
  | .bcc offset => .relative (displacementByte offset)
  | .bcs offset => .relative (displacementByte offset)
  | .beq offset => .relative (displacementByte offset)
  | .bne offset => .relative (displacementByte offset)
  | .bmi offset => .relative (displacementByte offset)
  | .bpl offset => .relative (displacementByte offset)
  | .bvc offset => .relative (displacementByte offset)
  | .bvs offset => .relative (displacementByte offset)
  -- Stack and transfers (47_stack_transfer.md)
  | .pha => .implied
  | .php => .implied
  | .pla => .implied
  | .plp => .implied
  | .tax => .implied
  | .tay => .implied
  | .tsx => .implied
  | .txa => .implied
  | .txs => .implied
  | .tya => .implied
  -- System (48_system.md)
  | .brk => .implied
  | .bitZp d8 => .zeroPage d8
  | .bitAbs a16 => .absolute a16
  | .nop => .implied
  -- Unofficial (49_unofficial.md)
  | .alrImm d8 => .immediate d8
  | .ancImm0B d8 => .immediate d8
  | .ancImm2B d8 => .immediate d8
  | .arrImm d8 => .immediate d8
  | .axsImm d8 => .immediate d8
  | .laxIndX d8 => .indirectX d8
  | .laxZp d8 => .zeroPage d8
  | .laxAbs a16 => .absolute a16
  | .laxIndY d8 => .indirectY d8
  | .laxZpY d8 => .zeroPageY d8
  | .laxAbsY a16 => .absoluteY a16
  | .saxIndX d8 => .indirectX d8
  | .saxZp d8 => .zeroPage d8
  | .saxAbs a16 => .absolute a16
  | .saxZpY d8 => .zeroPageY d8
  | .dcpIndX d8 => .indirectX d8
  | .dcpZp d8 => .zeroPage d8
  | .dcpAbs a16 => .absolute a16
  | .dcpIndY d8 => .indirectY d8
  | .dcpZpX d8 => .zeroPageX d8
  | .dcpAbsY a16 => .absoluteY a16
  | .dcpAbsX a16 => .absoluteX a16
  | .iscIndX d8 => .indirectX d8
  | .iscZp d8 => .zeroPage d8
  | .iscAbs a16 => .absolute a16
  | .iscIndY d8 => .indirectY d8
  | .iscZpX d8 => .zeroPageX d8
  | .iscAbsY a16 => .absoluteY a16
  | .iscAbsX a16 => .absoluteX a16
  | .rlaIndX d8 => .indirectX d8
  | .rlaZp d8 => .zeroPage d8
  | .rlaAbs a16 => .absolute a16
  | .rlaIndY d8 => .indirectY d8
  | .rlaZpX d8 => .zeroPageX d8
  | .rlaAbsY a16 => .absoluteY a16
  | .rlaAbsX a16 => .absoluteX a16
  | .rraIndX d8 => .indirectX d8
  | .rraZp d8 => .zeroPage d8
  | .rraAbs a16 => .absolute a16
  | .rraIndY d8 => .indirectY d8
  | .rraZpX d8 => .zeroPageX d8
  | .rraAbsY a16 => .absoluteY a16
  | .rraAbsX a16 => .absoluteX a16
  | .sloIndX d8 => .indirectX d8
  | .sloZp d8 => .zeroPage d8
  | .sloAbs a16 => .absolute a16
  | .sloIndY d8 => .indirectY d8
  | .sloZpX d8 => .zeroPageX d8
  | .sloAbsY a16 => .absoluteY a16
  | .sloAbsX a16 => .absoluteX a16
  | .sreIndX d8 => .indirectX d8
  | .sreZp d8 => .zeroPage d8
  | .sreAbs a16 => .absolute a16
  | .sreIndY d8 => .indirectY d8
  | .sreZpX d8 => .zeroPageX d8
  | .sreAbsY a16 => .absoluteY a16
  | .sreAbsX a16 => .absoluteX a16
  | .skbImm80 d8 => .immediate d8
  | .skbImm82 d8 => .immediate d8
  | .skbImm89 d8 => .immediate d8
  | .skbImmC2 d8 => .immediate d8
  | .skbImmE2 d8 => .immediate d8
  | .ignZp04 d8 => .zeroPage d8
  | .ignAbs a16 => .absolute a16
  | .ignZpX14 d8 => .zeroPageX d8
  | .ignAbsX1C a16 => .absoluteX a16
  | .ignZpX34 d8 => .zeroPageX d8
  | .ignAbsX3C a16 => .absoluteX a16
  | .ignZp44 d8 => .zeroPage d8
  | .ignZpX54 d8 => .zeroPageX d8
  | .ignAbsX5C a16 => .absoluteX a16
  | .ignZp64 d8 => .zeroPage d8
  | .ignZpX74 d8 => .zeroPageX d8
  | .ignAbsX7C a16 => .absoluteX a16
  | .ignZpXD4 d8 => .zeroPageX d8
  | .ignAbsXDC a16 => .absoluteX a16
  | .ignZpXF4 d8 => .zeroPageX d8
  | .ignAbsXFC a16 => .absoluteX a16

/-- The opcode byte of an instruction. -/
def Instr.opcodeByte (i : Instr) : Byte := i.row.byte

/-- The operation tag of an instruction (30_encoding.md R88). -/
def Instr.operation (i : Instr) : Operation := i.row.operation

/-- The addressing mode of an instruction (30_encoding.md R88). -/
def Instr.mode (i : Instr) : Mode := i.row.mode

/-- The base cycle count of an instruction (30_encoding.md R84, R85). -/
def Instr.baseCycles (i : Instr) : Nat := i.row.baseCycles

/-- The descriptor of an instruction: the triple of 30_encoding.md R88. -/
def Instr.descriptor (i : Instr) : Descriptor := ⟨i.operation, i.mode, i.baseCycles⟩

/-- The instruction a shape gives for operand bytes of zeros. -/
def Shape.sample : Shape → Instr
  | .op i => i
  | .d8 make => make 0
  | .a16 make => make 0

/-- `decode` of 30_encoding.md R83: a function of the opcode byte alone, to a descriptor or `unassigned`. -/
def descriptorOf (b : Byte) : Option Descriptor := (shapeOf b).map fun t => t.sample.descriptor

/-- How many operand bytes a mode consumes (30_encoding.md R81, 41_addressing_modes.md R135). -/
def Mode.operandBytes : Mode → Nat
  | .implied | .accumulator => 0
  | .immediate | .zeroPage | .zeroPageX | .zeroPageY | .relative | .indirectX | .indirectY => 1
  | .absolute | .absoluteX | .absoluteY | .indirect => 2

/-- The length of an instruction in bytes, a function of its mode (30_encoding.md R81). -/
def Instr.length (i : Instr) : Nat := 1 + i.mode.operandBytes

/-- The mode of an operand. -/
def Operand.mode : Operand → Mode
  | .implied => .implied
  | .accumulator => .accumulator
  | .immediate _ => .immediate
  | .zeroPage _ => .zeroPage
  | .zeroPageX _ => .zeroPageX
  | .zeroPageY _ => .zeroPageY
  | .absolute _ => .absolute
  | .absoluteX _ => .absoluteX
  | .absoluteY _ => .absoluteY
  | .relative _ => .relative
  | .indirect _ => .indirect
  | .indirectX _ => .indirectX
  | .indirectY _ => .indirectY

/-- The operand bytes in stream order: a16 low byte first (30_encoding.md R80, 20_memory.md R55). -/
def Operand.bytes : Operand → List Byte
  | .implied | .accumulator => []
  | .immediate d8 | .zeroPage d8 | .zeroPageX d8 | .zeroPageY d8 | .relative d8 | .indirectX d8 | .indirectY d8 => [d8]
  | .absolute a16 | .absoluteX a16 | .absoluteY a16 | .indirect a16 =>
    [a16.extractLsb' 0 8, a16.extractLsb' 8 8]

/-- The bytes of an instruction at increasing addresses (30_encoding.md R80). -/
def encode (i : Instr) : List Byte := i.opcodeByte :: i.operand.bytes

/-- The opcode bytes of the fourteen unofficial operations: 30_encoding.md R85. -/
def Operation.unofficial : Operation → Bool
  | .alr | .anc | .arr | .axs | .lax | .sax | .dcp | .isc | .rla | .rra | .slo | .sre | .skb | .ign => true
  | _ => false

/-- The bits of a table word as the three bytes of the longest instruction, bits above `nbits` zero. -/
def tableBytes (nbits w : Nat) : List Byte :=
  let v := w % 2 ^ nbits
  [BitVec.ofNat 8 v, BitVec.ofNat 8 (v / 256), BitVec.ofNat 8 (v / 65536)]

/-- The instruction read from a word of spec/opcode_table.json: bit 0 is bit 0 of the opcode byte, the next byte's
bits follow, and operand bytes the table gives no bits are zero. -/
def decodeTableWord (nbits w : Nat) : Option Instr :=
  match decode (tableBytes nbits w) with
  | .ok (i, _) => some i
  | .error _ => none

end Sys2Proof
end

