-- ==== Sys2Proof/Machine/Flags.lean ====
section
/-! DEFINITION. The status byte (10_state.md R23 to R32) and every flag computation, as functions of bytes: the byte
functions of the arithmetic, shift and compare rules answer a result and the new status byte. -/

namespace Sys2Proof.Machine

/-! Bit positions (10_state.md R23). -/

/-- Carry -/
def bitC : Nat := 0
/-- Zero -/
def bitZ : Nat := 1
/-- DisableInterrupts -/
def bitI : Nat := 2
/-- DecimalMode -/
def bitD : Nat := 3
/-- Break -/
def bitB : Nat := 4
/-- unused -/
def bitU : Nat := 5
/-- Overflow -/
def bitV : Nat := 6
/-- Negative -/
def bitN : Nat := 7

/-- One bit of a status byte. -/
def flag (k : Nat) (p : Byte) : Bool := p.getLsbD k

/-- `P.f <- b`: one bit written, the others kept (00_scope.md R7). -/
def setFlag (k : Nat) (b : Bool) (p : Byte) : Byte :=
  if b then p ||| (1#8 <<< k) else p &&& ~~~(1#8 <<< k)

/-- `setZN(v)` (00_scope.md R8). -/
def setZN (v : Byte) (p : Byte) : Byte := setFlag bitN (v.getLsbD 7) (setFlag bitZ (decide (v = 0)) p)

/-! The status byte on the stack (10_state.md R24). -/

/-- What PHP and BRK push: bits 4 and 5 set. -/
def pushedBySoftware (p : Byte) : Byte := p ||| 0x30

/-- What the IRQ and NMI entries push: bit 4 clear, bit 5 set. -/
def pushedByInterrupt (p : Byte) : Byte := (p &&& 0xEF) ||| 0x20

/-- What PLP and RTI load: bits 4 and 5 are not taken from the pulled byte. -/
def pulledStatus (m : Byte) : Byte := (m &&& 0xCF) ||| 0x20

/-! Arithmetic (42_alu.md R140 to R145). Binary for both values of P.D. -/

/-- `A + M + P.C` exactly, 0..511 (42_alu.md R141). -/
def sumWithCarry (a m p : Byte) : Nat := a.toNat + m.toNat + (flag bitC p).toNat

/-- ADC's result and status byte (42_alu.md R141). -/
def addWithCarry (a m p : Byte) : Byte × Byte :=
  let s := sumWithCarry a m p
  let r := BitVec.ofNat 8 s
  let overflow := ((a ^^^ r) &&& (m ^^^ r)).getLsbD 7
  (r, setZN r (setFlag bitV overflow (setFlag bitC (decide (s > 255)) p)))

/-- SBC's: ADC of the complemented operand (42_alu.md R142). -/
def subtractWithBorrow (a m p : Byte) : Byte × Byte := addWithCarry a (m ^^^ 0xFF) p

/-- `Compare(R, M)`: flags only (45_flags_compare.md R182). -/
def compareFlags (r m p : Byte) : Byte := setZN (r - m) (setFlag bitC (decide (m.toNat ≤ r.toNat)) p)

/-- BIT's status byte (48_system.md R226). -/
def bitTestFlags (a m p : Byte) : Byte :=
  setFlag bitV (m.getLsbD 6) (setFlag bitN (m.getLsbD 7) (setFlag bitZ (decide (a &&& m = 0)) p))

/-! Shifts, rotates, increments (43_shift_incdec.md R151 to R156): result and status byte of `f`. -/

/-- A byte function that also sets flags. -/
abbrev ByteFn := Byte → Byte → Byte × Byte

/-- ASL (R151). -/
def aslByte : ByteFn := fun v p =>
  let r := v <<< 1
  (r, setZN r (setFlag bitC (v.getLsbD 7) p))

/-- LSR (R152). -/
def lsrByte : ByteFn := fun v p =>
  let r := v >>> 1
  (r, setZN r (setFlag bitC (v.getLsbD 0) p))

/-- ROL (R153): the old carry enters bit 0. -/
def rolByte : ByteFn := fun v p =>
  let r := (v <<< 1) ||| (if flag bitC p then 0x01 else 0x00)
  (r, setZN r (setFlag bitC (v.getLsbD 7) p))

/-- ROR (R154): the old carry enters bit 7. -/
def rorByte : ByteFn := fun v p =>
  let r := (v >>> 1) ||| (if flag bitC p then 0x80 else 0x00)
  (r, setZN r (setFlag bitC (v.getLsbD 0) p))

/-- INC (R155). -/
def incByte : ByteFn := fun v p => (v + 1, setZN (v + 1) p)

/-- DEC (R156). -/
def decByte : ByteFn := fun v p => (v - 1, setZN (v - 1) p)

/-! Flags of the unofficial immediate operations under UNOFFICIAL_EXEC = full (49_unofficial.md R236 to R239). -/

/-- ALR (R236): and, then shift right. -/
def alrByte (a m p : Byte) : Byte × Byte := lsrByte (a &&& m) p

/-- ANC (R237): and, bit 7 to the carry. -/
def ancByte (a m p : Byte) : Byte × Byte :=
  let r := a &&& m
  (r, setFlag bitC (r.getLsbD 7) (setZN r p))

/-- ARR (R238): and, then rotate right, C from bit 6, V from bits 6 and 5. -/
def arrByte (a m p : Byte) : Byte × Byte :=
  let t := a &&& m
  let r := (t >>> 1) ||| (if flag bitC p then 0x80 else 0x00)
  (r, setFlag bitV (r.getLsbD 6 ^^ r.getLsbD 5) (setFlag bitC (r.getLsbD 6) (setZN r p)))

/-- AXS (R239): (A and X) minus M, the carry as in a compare. -/
def axsByte (a x m p : Byte) : Byte × Byte :=
  let t := a &&& x
  (t - m, compareFlags t m p)

end Sys2Proof.Machine
end

