-- ==== Sys2Proof/Machine/State.lean ====
section
/-! DEFINITION. The state of the block and of its bus as plain data (10_state.md R20 to R45, 20_memory.md R53), the
reasons a step can stop, and the states at power-on and after reset. -/

namespace Sys2Proof.Machine

/-- One bus operation of the block: `MemRead(a, 1)` with the byte it yielded, or `MemWrite(a, 1, v)`
(00_scope.md R7, 20_memory.md R50). -/
inductive BusOp where
  | read (a : Word) (v : Byte)
  | write (a : Word) (v : Byte)
  deriving DecidableEq, Repr

/-- What the host can do between transitions: the five operations of 40_cpu_cycle.md R100 and its own bus write
(70_reset_and_hazards.md R294, 20_memory.md R69). -/
inductive HostEvent where
  | clock
  | fetch
  | reset
  | irq
  | nmi
  | busWrite (a : Word) (v : Byte)
  deriving DecidableEq, Repr

/-- The host errors of 60_exceptions.md R263, and one no run reaches. -/
inductive Violation where
  /-- `fetch()` while `instr_latched` is false (40_cpu_cycle.md R108). -/
  | fetchWithoutInstruction
  /-- IRQ or NMI while `cycles > 0` (60_exceptions.md R271). -/
  | interruptMidInstruction
  /-- `fetch()` while `opcode` holds an unassigned byte: R108 asks the mode of a byte that has none.
  The opcode fetch never latches such a byte (R104), so only an unreachable state raises it (log 11). -/
  | latchedByteUnassigned
  deriving DecidableEq, Repr

/-- The fault outcomes of 60_exceptions.md R260. -/
inductive Fault where
  /-- Raised by the opcode fetch on one of the 27 unassigned bytes, and by an unofficial instruction when
  UNOFFICIAL_EXEC = fault (60_exceptions.md R261). Safe: the spec itself ends the run there. -/
  | decodeFailure (byte : Byte) (pc : Word)
  /-- Raised by a bus read of an absent address under BUS_ABSENT_POLICY = fault (60_exceptions.md R262), never on the
  flat bus. Safe: the spec itself ends the run there. -/
  | busFault (address : Word)
  /-- Raised by a host call out of its protocol (60_exceptions.md R263). Safe: no program causes it. -/
  | invariantViolation (reason : Violation)
  deriving DecidableEq, Repr

/-- The refusals. -/
inductive Refusal where
  /-- Raised by exec's arm of an instruction without a meaning; no arm of this model does. Safe. -/
  | notModelled (mnemonic : String)
  /-- Raised by `step` on a faulted block, which has no transition (60_exceptions.md R264). Safe. -/
  | blockFaulted
  deriving DecidableEq, Repr

/-- The whole state (10_state.md R42), the bus contents (20_memory.md R53), and the model's own fields
`params` (log 1), `inputs` (log 2), `busOps` (log 9) and `deviceReads` (log 7). -/
structure State where
  /-- accumulator (R20) -/
  a : Byte
  /-- x_register (R20) -/
  x : Byte
  /-- y_register (R20) -/
  y : Byte
  /-- stack_pointer (R21) -/
  sp : Byte
  /-- program_counter (R22) -/
  pc : Word
  /-- status_register (R23) -/
  p : Byte
  /-- address_absolute (R33) -/
  addressAbsolute : Word
  /-- address_relative (R34) -/
  addressRelative : Word
  /-- the latched instruction byte (R35) -/
  opcode : Byte
  /-- the operand byte most recently read (R36) -/
  fetched : Byte
  /-- the clock pulses still owed (R37) -/
  cycles : Byte
  /-- `fetched` holds the operand of the latched instruction (R38) -/
  fetchValid : Bool
  /-- an instruction has been latched since reset or power-on (R39) -/
  instrLatched : Bool
  /-- a transition ended in a fault (R40) -/
  faulted : Bool
  /-- the bytes of the bus's RAM, in canonical form -/
  mem : List Host.Cell
  /-- the model arguments of 00_scope.md R5 -/
  params : Params
  /-- the host calls still to be made; when there is none the next is `clock()` -/
  inputs : List HostEvent
  /-- the bus operations of the latest transition, in order -/
  busOps : List BusOp
  /-- how many reads of device regions have been answered -/
  deviceReads : Nat
  deriving DecidableEq, Repr

/-- The state at creation (10_state.md R44, 70_reset_and_hazards.md R290) on a bus nothing has written. -/
def State.powerOn : State :=
  { a := 0x00, x := 0x00, y := 0x00, sp := 0xFD, pc := 0x0000, p := 0x24
    addressAbsolute := 0x0000, addressRelative := 0x0000, opcode := 0x00, fetched := 0x00
    cycles := 0, fetchValid := false, instrLatched := false, faulted := false
    mem := [], params := Params.defaults, inputs := [], busOps := [], deviceReads := 0 }

/-- The state right after `reset()` at power-on (10_state.md R45, 70_reset_and_hazards.md R291) on a bus nothing has
written: the vector bytes at 0xFFFC and 0xFFFD read as 0x00 there (DESIGN CHOICE, log 3, unsafe), so pc is 0x0000
(log 5), and these two reads are the transition's bus operations. -/
def State.reset : State :=
  { State.powerOn with
    pc := 0x0000, cycles := 7, busOps := [.read 0xFFFC 0x00, .read 0xFFFD 0x00] }

end Sys2Proof.Machine
end

