-- ==== Sys2Proof/Machine/Ops.lean ====
section
/-! DEFINITION. The named operations over memory, bus, stack and latches that every meaning is built from, and the one
operation that takes an interrupt, with its return (20_memory.md, 60_exceptions.md R266, 46_control_transfer.md R192). -/

namespace Sys2Proof.Machine

/-- What an operation of the block answers: a value, or the outcome that ends the transition. -/
abbrev Res (α : Type) := Host.Outcome α Fault Refusal

/-- Goes on with a value; an outcome that ends the transition stays (00_scope.md R7, `raise`). -/
def andThen {α β : Type} (r : Res α) (k : α → Res β) : Res β :=
  match r with
  | .next v => k v
  | .fault f => .fault f
  | .refused f => .refused f

/-! Fixed parameters (00_scope.md R5). -/

/-- VEC_NMI (00_scope.md R5, 20_memory.md R66). -/
def vecNmi : Word := 0xFFFA

/-- VEC_RESET (00_scope.md R5, 20_memory.md R66). -/
def vecReset : Word := 0xFFFC

/-- VEC_IRQ, shared by IRQ and BRK (00_scope.md R5, 20_memory.md R66). -/
def vecIrq : Word := 0xFFFE

/-- INT_CYCLES (00_scope.md R5). -/
def intCycles : Byte := 7

/-- RESET_CYCLES (00_scope.md R5). -/
def resetCycles : Byte := 7

/-- RESET_SP (00_scope.md R5). -/
def resetSp : Byte := 0xFD

/-- RESET_P (00_scope.md R5). -/
def resetP : Byte := 0x24

/-! Bytes of a word (00_scope.md R6). -/

/-- Bits 15..8. -/
def hiByte (w : Word) : Byte := w.extractLsb' 8 8

/-- Bits 7..0. -/
def loByte (w : Word) : Byte := w.extractLsb' 0 8

/-- `{hi, lo}`. -/
def wordOf (hi lo : Byte) : Word := hi ++ lo

/-- `zext_16`. -/
def zext16 (b : Byte) : Word := b.setWidth 16

/-- `sext_16`. -/
def sext16 (b : Byte) : Word := b.signExtend 16

/-! The bus contents: address and byte pairs, addresses rising, no entry equal to what an unlisted address reads as. -/

/-- What an address nothing has written reads as. The spec leaves the initial contents to the host (20_memory.md R53,
93_implementation_defined.md M25). DESIGN CHOICE, log 3, unsafe: 0x00, the start condition of 95_test_vectors.md. -/
def unwrittenByte : Byte := 0x00

/-- The byte at an address (20_memory.md R53). -/
def Memory.read (mem : List Host.Cell) (a : Nat) : Byte :=
  match mem with
  | [] => unwrittenByte
  | (k, v) :: rest => if a = k then v else Memory.read rest a

/-- A cell in front of the cells above it, left out where it holds what an unlisted address reads as. -/
def Memory.put (a : Nat) (v : Byte) (rest : List Host.Cell) : List Host.Cell :=
  if v = unwrittenByte then rest else (a, v) :: rest

/-- The contents with the byte at one address replaced (20_memory.md R53). -/
def Memory.write (mem : List Host.Cell) (a : Nat) (v : Byte) : List Host.Cell :=
  match mem with
  | [] => Memory.put a v []
  | (k, u) :: rest =>
    if a < k then Memory.put a v ((k, u) :: rest)
    else if a = k then Memory.put a v rest
    else (k, u) :: Memory.write rest a v

/-- The canonical form above a bound: addresses rise, lie in the 16-bit space, and hold no unlisted byte. -/
def Memory.wfFrom (low : Nat) (mem : List Host.Cell) : Bool :=
  match mem with
  | [] => true
  | (k, v) :: rest => decide (low ≤ k) && decide (k < 65536) && decide (v ≠ unwrittenByte) && Memory.wfFrom (k + 1) rest

/-- The canonical form of the bus contents. -/
def Memory.wf (mem : List Host.Cell) : Bool := Memory.wfFrom 0 mem

/-! The bus (20_memory.md R50 to R54). -/

/-- What a list of mapped regions has at an address: the first region that covers it, else nothing. -/
def regionsAt (regions : List Region) (a : Word) : Access :=
  match regions with
  | [] => .absent
  | r :: rest =>
    if r.first ≤ a ∧ a ≤ r.last then
      (match r.kind with
       | .ram => .ram
       | .device => .device)
    else regionsAt rest a

/-- What the bus has at an address: RAM everywhere on the flat bus (20_memory.md R53). -/
def accessAt (bus : BusMap) (a : Word) : Access :=
  match bus with
  | .flat => .ram
  | .segmented regions => regionsAt regions a

/-- The byte a read would deliver, where it delivers one. A device answers with the free value of log 7. At an absent
address under the policy `fault` a read delivers none (`busRead` faults), and what `readOnly` answers there is the free
value of log 18 (DESIGN CHOICE: the spec is silent). -/
def busByte (s : State) (a : Word) : Byte :=
  match accessAt s.params.bus a with
  | .ram => Memory.read s.mem a.toNat
  | .device => Config.deviceByte s.deviceReads a
  | .absent =>
    match s.params.absentPolicy with
    | .fault => Config.absentByte a
    | .defaultByte b => b

/-- The bus operation goes to the list of this transition's operations (20_memory.md R61, log 9). -/
def logOp (op : BusOp) (s : State) : State := { s with busOps := s.busOps ++ [op] }

/-- The act of one bus read at `a` that yields `v`: it may be absent (20_memory.md R54), and a device counts it. -/
def busRead (a : Word) (v : Byte) (s : State) : Res State :=
  match accessAt s.params.bus a with
  | .ram => .next (logOp (.read a v) s)
  | .device => .next (logOp (.read a v) { s with deviceReads := s.deviceReads + 1 })
  | .absent =>
    match s.params.absentPolicy with
    | .fault => .fault (.busFault a)
    | .defaultByte _ => .next (logOp (.read a v) s)

/-- `MemRead(a, 1)` (20_memory.md R50). -/
def memRead (a : Word) (s : State) : Res (Byte × State) :=
  andThen (busRead a (busByte s a) s) fun s1 => .next (busByte s a, s1)

/-- The bytes after a write: RAM takes it, a device's own affair and an absent address leave them (20_memory.md R54). -/
def store (a : Word) (v : Byte) (s : State) : State :=
  match accessAt s.params.bus a with
  | .ram => { s with mem := Memory.write s.mem a.toNat v }
  | .device => s
  | .absent => s

/-- `MemWrite(a, 1, v)` (20_memory.md R50): it cannot fail (R54). -/
def memWrite (a : Word) (v : Byte) (s : State) : State := logOp (.write a v) (store a v s)

/-- `read_only` of the bus (20_memory.md R51, 60_exceptions.md R279): no side effect, never invoked by the block. On the
flat bus it answers what `read` does. DESIGN CHOICE (log 18) where the spec is silent: on a device it answers the free
value the next read would, and counts no read; at an absent address it answers the default byte where the policy has one,
and under the policy `fault` the free value `Config.absentByte`. -/
def readOnly (s : State) (a : Word) : Byte := busByte s a

/-- `read16` (00_scope.md R8): low byte first, the second address modulo 65536. -/
def read16 (a : Word) (s : State) : Res (Word × State) :=
  andThen (memRead a s) fun r1 =>
  andThen (memRead (a + 1) r1.2) fun r2 =>
  .next (wordOf r2.1 r1.1, r2.2)

/-- `next8` (00_scope.md R8) on an operand byte of the running instruction: one bus read at pc, pc moves on.
The byte is the instruction's own, which decode took from this address in the same transition (DEDUCED, log 6, safe). -/
def next8 (d : Byte) (s : State) : Res State :=
  andThen (busRead s.pc d s) fun s1 => .next { s1 with pc := s1.pc + 1 }

/-! The stack (20_memory.md R65, 47_stack_transfer.md R210). -/

/-- The address SP designates: STACK_PAGE + SP, STACK_PAGE = 0x0100 (20_memory.md R65). -/
def stackAddress (sp : Byte) : Word := wordOf 0x01 sp

/-- `push8` (00_scope.md R8): write, then decrement. -/
def push8 (v : Byte) (s : State) : State :=
  let s1 := memWrite (stackAddress s.sp) v s
  { s1 with sp := s1.sp - 1 }

/-- `pull8` (00_scope.md R8): increment, then read. -/
def pull8 (s : State) : Res (Byte × State) :=
  let s1 := { s with sp := s.sp + 1 }
  memRead (stackAddress s1.sp) s1

/-- A 16-bit value is pushed high byte first (20_memory.md R57). -/
def push16 (w : Word) (s : State) : State := push8 (loByte w) (push8 (hiByte w) s)

/-- A 16-bit value is pulled low byte first (20_memory.md R57). -/
def pull16 (s : State) : Res (Word × State) :=
  andThen (pull8 s) fun r1 =>
  andThen (pull8 r1.2) fun r2 =>
  .next (wordOf r2.1 r1.1, r2.2)

/-! Taking an interrupt, and the return from one. -/

/-- The entry shared by BRK, IRQ and NMI: push the return address high byte first, push the status byte, set P.I after
the push, load pc from the vector low byte first (48_system.md R225, 60_exceptions.md R266). -/
def enterInterrupt (vector : Word) (returnTo : Word) (status : Byte) (s : State) : Res State :=
  let s1 := push8 status (push16 returnTo s)
  let s2 := { s1 with p := setFlag bitI true s1.p }
  andThen (read16 vector s2) fun r => .next { r.2 with pc := r.1 }

/-- The return: P, then pc low, then pc high, no increment (46_control_transfer.md R192, 60_exceptions.md R272). -/
def returnFromInterrupt (s : State) : Res State :=
  andThen (pull8 s) fun r1 =>
  andThen (pull16 { r1.2 with p := pulledStatus r1.1 }) fun r2 =>
  .next { r2.2 with pc := r2.1 }

/-! The latches. -/

/-- The opcode fetch's effect on a successful decode (40_cpu_cycle.md R103, R104). -/
def latchOpcode (b : Byte) (s : State) : State :=
  { s with opcode := b, pc := s.pc + 1, fetchValid := false, instrLatched := true }

/-- The modes without an effective address (40_cpu_cycle.md R108). -/
def hasNoAddress (m : Mode) : Bool :=
  match m with
  | .implied | .accumulator | .relative => true
  | .immediate | .zeroPage | .zeroPageX | .zeroPageY | .absolute | .absoluteX | .absoluteY
  | .indirect | .indirectX | .indirectY => false

/-- The body of `fetch()` once the mode is known (40_cpu_cycle.md R108), over the read that delivers the operand. -/
def fetchBy (deliver : State → Res (Byte × State)) (m : Mode) (s : State) : Res (Byte × State) :=
  if hasNoAddress m then .next (s.fetched, s)
  else if s.fetchValid then .next (s.fetched, s)
  else andThen (deliver s) fun r => .next (r.1, { r.2 with fetched := r.1, fetchValid := true })

end Sys2Proof.Machine
end

