-- ==== Sys2Proof/Machine/Operands.lean ====
section
/-! DEFINITION. The addressing mode resolver, all thirteen modes (41_addressing_modes.md R120 to R135), the executor's
operand fetch, and the effective address as a function of the state. -/

namespace Sys2Proof.Machine

/-- Two addresses on different pages (41_addressing_modes.md R134). -/
def pageDiffers (a b : Word) : Bool := decide (hiByte a ≠ hiByte b)

/-- The next address in the same page: the low byte is incremented modulo 256 (41_addressing_modes.md R131). -/
def nextInPage (a : Word) : Word := wordOf (hiByte a) (loByte a + 1)

/-- Reads a 16-bit pointer, low byte first, its high byte from the same page (R131 to R133: in the zero page this is
`(p + 1) mod 256`). -/
def readPointer (a : Word) (s : State) : Res (Word × State) :=
  andThen (memRead a s) fun r1 =>
  andThen (memRead (nextInPage a) r1.2) fun r2 =>
  .next (wordOf r2.1 r1.1, r2.2)

/-- Leaves the effective address in `address_absolute`; nothing crossed. -/
def resolved (ea : Word) (s : State) : Res (Bool × State) := .next (false, { s with addressAbsolute := ea })

/-- Leaves base + index modulo 65536 in `address_absolute` and reports a page crossing (R128, R129, R133, R134). -/
def resolvedIndexed (base : Word) (index : Byte) (s : State) : Res (Bool × State) :=
  let ea := base + zext16 index
  .next (pageDiffers ea base, { s with addressAbsolute := ea })

/-- The two operand bytes of an OP_A16 instruction, low byte first (R127). -/
def next16 (w : Word) (s : State) : Res State :=
  andThen (next8 (loByte w) s) fun s1 => next8 (hiByte w) s1

/-- `Resolve(mode) -> crossed` (41_addressing_modes.md R120 to R133). -/
def resolve (m : Operand) (s : State) : Res (Bool × State) :=
  match m with
  | .implied => .next (false, s)
  | .accumulator => .next (false, s)
  | .immediate _ => resolved s.pc { s with pc := s.pc + 1 }
  | .zeroPage d8 => andThen (next8 d8 s) fun s1 => resolved (zext16 d8) s1
  | .zeroPageX d8 => andThen (next8 d8 s) fun s1 => resolved (zext16 (d8 + s1.x)) s1
  | .zeroPageY d8 => andThen (next8 d8 s) fun s1 => resolved (zext16 (d8 + s1.y)) s1
  | .absolute a16 => andThen (next16 a16 s) fun s1 => resolved a16 s1
  | .absoluteX a16 => andThen (next16 a16 s) fun s1 => resolvedIndexed a16 s1.x s1
  | .absoluteY a16 => andThen (next16 a16 s) fun s1 => resolvedIndexed a16 s1.y s1
  | .relative d8 => andThen (next8 d8 s) fun s1 => .next (false, { s1 with addressRelative := sext16 d8 })
  | .indirect a16 =>
    andThen (next16 a16 s) fun s1 => andThen (readPointer a16 s1) fun r => resolved r.1 r.2
  | .indirectX d8 =>
    andThen (next8 d8 s) fun s1 => andThen (readPointer (zext16 (d8 + s1.x)) s1) fun r => resolved r.1 r.2
  | .indirectY d8 =>
    andThen (next8 d8 s) fun s1 => andThen (readPointer (zext16 d8) s1) fun r => resolvedIndexed r.1 r.2.y r.2

/-- The bus read of the operand at `address_absolute`. In Immediate mode that address is the operand byte's own in the
instruction stream (41_addressing_modes.md R123), and the byte read is the instruction's (DEDUCED, log 6, safe). -/
def operandRead (m : Operand) (s : State) : Res (Byte × State) :=
  match m with
  | .immediate d8 => andThen (busRead s.addressAbsolute d8 s) fun s1 => .next (d8, s1)
  | .implied | .accumulator | .zeroPage _ | .zeroPageX _ | .zeroPageY _ | .absolute _ | .absoluteX _ | .absoluteY _
  | .relative _ | .indirect _ | .indirectX _ | .indirectY _ => memRead s.addressAbsolute s

/-- `M <- fetch()` of an executor (40_cpu_cycle.md R108, 41_addressing_modes.md R135). -/
def fetchOperand (m : Operand) (s : State) : Res (Byte × State) := fetchBy (operandRead m) m.mode s

/-! The same, as functions of the bus contents: what the resolver computes on the flat bus (20_memory.md R53). -/

/-- A pointer in memory, its high byte from the same page. -/
def pointerAt (s : State) (a : Word) : Word :=
  wordOf (Memory.read s.mem (nextInPage a).toNat) (Memory.read s.mem a.toNat)

/-- The address before the index is added, in the three modes that can cross a page (R134). -/
def indexBase (m : Operand) (s : State) : Word :=
  match m with
  | .absoluteX a16 | .absoluteY a16 => a16
  | .indirectY d8 => pointerAt s (zext16 d8)
  | .implied | .accumulator | .immediate _ | .zeroPage _ | .zeroPageX _ | .zeroPageY _ | .absolute _
  | .relative _ | .indirect _ | .indirectX _ => 0

/-- The effective address of the instruction at pc (R123 to R133); the modes that have none keep the latch. -/
def effectiveAddress (m : Operand) (s : State) : Word :=
  match m with
  | .implied | .accumulator | .relative _ => s.addressAbsolute
  | .immediate _ => s.pc + 1
  | .zeroPage d8 => zext16 d8
  | .zeroPageX d8 => zext16 (d8 + s.x)
  | .zeroPageY d8 => zext16 (d8 + s.y)
  | .absolute a16 => a16
  | .absoluteX a16 => a16 + zext16 s.x
  | .absoluteY a16 => a16 + zext16 s.y
  | .indirect a16 => pointerAt s a16
  | .indirectX d8 => pointerAt s (zext16 (d8 + s.x))
  | .indirectY d8 => pointerAt s (zext16 d8) + zext16 s.y

/-- Whether indexing leaves the base's page (R134). -/
def crosses (m : Operand) (s : State) : Bool :=
  match m with
  | .absoluteX _ | .absoluteY _ | .indirectY _ => pageDiffers (effectiveAddress m s) (indexBase m s)
  | .implied | .accumulator | .immediate _ | .zeroPage _ | .zeroPageX _ | .zeroPageY _ | .absolute _
  | .relative _ | .indirect _ | .indirectX _ => false

/-- The operand byte of the instruction at pc: the immediate byte, or the byte at the effective address. -/
def operandByte (m : Operand) (s : State) : Byte :=
  match m with
  | .immediate d8 => d8
  | .implied | .accumulator | .zeroPage _ | .zeroPageX _ | .zeroPageY _ | .absolute _ | .absoluteX _ | .absoluteY _
  | .relative _ | .indirect _ | .indirectX _ | .indirectY _ => Memory.read s.mem (effectiveAddress m s).toNat

/-- The read of one byte of the flat RAM, as a bus operation. -/
def readOf (s : State) (a : Word) : BusOp := .read a (Memory.read s.mem a.toNat)

/-- The resolver's bus reads, in order (R135's table, R121 to R133), for the instruction at pc. -/
def resolverReads (m : Operand) (s : State) : List BusOp :=
  match m with
  | .implied | .accumulator | .immediate _ => []
  | .zeroPage d8 | .zeroPageX d8 | .zeroPageY d8 | .relative d8 => [.read (s.pc + 1) d8]
  | .absolute a16 | .absoluteX a16 | .absoluteY a16 =>
    [.read (s.pc + 1) (loByte a16), .read (s.pc + 2) (hiByte a16)]
  | .indirect a16 =>
    [.read (s.pc + 1) (loByte a16), .read (s.pc + 2) (hiByte a16), readOf s a16, readOf s (nextInPage a16)]
  | .indirectX d8 =>
    [.read (s.pc + 1) d8, readOf s (zext16 (d8 + s.x)), readOf s (nextInPage (zext16 (d8 + s.x)))]
  | .indirectY d8 =>
    [.read (s.pc + 1) d8, readOf s (zext16 d8), readOf s (nextInPage (zext16 d8))]

end Sys2Proof.Machine
end

