-- ==== Sys2Proof/Machine/Frame.lean ====
section
/-! DEFINITION. The frame every instruction runs in (40_cpu_cycle.md R103 to R107): latch, resolve, execute, cost, and the
execution policy of the unofficial operations (49_unofficial.md R235). -/

namespace Sys2Proof.Machine

/-- An executor: from the state the resolver left, the extra cycles and the next state (40_cpu_cycle.md R103). -/
abbrev Executor := Operand → State → Res (Nat × State)

/-- An executor's end without extra cycles (40_cpu_cycle.md R106). -/
def done (s : State) : Res (Nat × State) := .next (0, s)

/-- PAGE_PENALTY_CLASS (40_cpu_cycle.md R107): LAX and IGN belong to it under UNOFFICIAL_EXEC = full only. -/
def pagePenaltyClass (u : UnofficialExec) (op : Operation) : Bool :=
  match op with
  | .lda | .ldx | .ldy | .adc | .sbc | .and | .eor | .ora | .cmp => true
  | .lax | .ign => decide (u = .full)
  | _ => false

/-- PagePenalty (40_cpu_cycle.md R107). -/
def pagePenalty (u : UnofficialExec) (op : Operation) (crossed : Bool) : Nat :=
  if crossed && pagePenaltyClass u op then 1 else 0

/-- `ExecuteOneInstruction` after the opcode byte is known (40_cpu_cycle.md R103): latch, Resolve, Execute, and
`cycles` loaded with the total cost (R106). -/
def runInstruction (b : Byte) (op : Operation) (base : Nat) (m : Operand) (execute : Executor) (s : State) : Res State :=
  andThen (resolve m (latchOpcode b s)) fun r1 =>
  andThen (execute m r1.2) fun r2 =>
  .next { r2.2 with cycles := BitVec.ofNat 8 (base + pagePenalty s.params.unofficialExec op r1.1 + r2.1) }

/-- An official instruction. -/
def official (b : Byte) (op : Operation) (base : Nat) (m : Operand) (execute : Executor) (s : State) : Res State :=
  runInstruction b op base m execute s

/-- The executor of the documented no-op: nothing at all (49_unofficial.md R235). -/
def idle : Executor := fun _ s => done s

/-- An unofficial instruction (49_unofficial.md R235): under `nop` the executor does nothing, under `full` it does
`execute`, under `fault` the byte raises DecodeFailure at the opcode's address before any state changes (R261). -/
def unofficial (b : Byte) (op : Operation) (base : Nat) (m : Operand) (execute : Executor) (s : State) : Res State :=
  match s.params.unofficialExec with
  | .nop => runInstruction b op base m idle s
  | .full => runInstruction b op base m execute s
  | .fault => .fault (.decodeFailure b s.pc)

/-- A read-class executor: the operand is fetched once, then registers and flags change (41_addressing_modes.md R135). -/
def readClass (f : Byte → State → State) : Executor := fun m s =>
  andThen (fetchOperand m s) fun r => done (f r.1 r.2)

/-- A store-class executor: one write at the effective address, no read (41_addressing_modes.md R135). -/
def storeClass (v : State → Byte) : Executor := fun _ s => done (memWrite s.addressAbsolute (v s) s)

/-- A read-modify-write of memory, one read and one write of the same address, flags by `f`, and what follows the write
(43_shift_incdec.md R150, 49_unofficial.md R242 to R247). -/
def modifyMemory (f : ByteFn) (after : Byte → State → State) : Executor := fun m s =>
  andThen (fetchOperand m s) fun r =>
  let q := f r.1 r.2.p
  done (after q.1 (memWrite r.2.addressAbsolute q.1 { r.2 with p := q.2 }))

/-- The template of 43_shift_incdec.md R150: in Accumulator mode `A <- f(A)` with no bus operation, else memory. -/
def modify (f : ByteFn) : Executor := fun m s =>
  match m with
  | .accumulator =>
    let q := f s.a s.p
    done { s with a := q.1, p := q.2 }
  | .implied | .immediate _ | .zeroPage _ | .zeroPageX _ | .zeroPageY _ | .absolute _ | .absoluteX _ | .absoluteY _
  | .relative _ | .indirect _ | .indirectX _ | .indirectY _ => modifyMemory f (fun _ t => t) m s

/-- An executor that reads nothing from the bus: its effect is a function of the state. -/
def direct (f : State → State) : Executor := fun _ s => done (f s)

end Sys2Proof.Machine
end

