-- ==== Sys2Proof/Machine/Alu.lean ====
section
/-! DEFINITION. Binary ALU: ADC SBC AND EOR ORA (42_alu.md). An executor per operation, a meaning per row. -/

namespace Sys2Proof.Machine

/-- ADC (42_alu.md R141). -/
def opAdc : Executor := readClass fun v s =>
  let q := addWithCarry s.a v s.p
  { s with a := q.1, p := q.2 }

/-- `ADC ($nn,X)` (R141) -/
def execAdcIndX (d8 : Byte) (s : State) : Res State := official 0x61 .adc 6 (.indirectX d8) opAdc s
/-- `ADC $nn` (R141) -/
def execAdcZp (d8 : Byte) (s : State) : Res State := official 0x65 .adc 3 (.zeroPage d8) opAdc s
/-- `ADC #$nn` (R141) -/
def execAdcImm (d8 : Byte) (s : State) : Res State := official 0x69 .adc 2 (.immediate d8) opAdc s
/-- `ADC $nnnn` (R141) -/
def execAdcAbs (a16 : Word) (s : State) : Res State := official 0x6D .adc 4 (.absolute a16) opAdc s
/-- `ADC ($nn),Y` (R141) -/
def execAdcIndY (d8 : Byte) (s : State) : Res State := official 0x71 .adc 5 (.indirectY d8) opAdc s
/-- `ADC $nn,X` (R141) -/
def execAdcZpX (d8 : Byte) (s : State) : Res State := official 0x75 .adc 4 (.zeroPageX d8) opAdc s
/-- `ADC $nnnn,Y` (R141) -/
def execAdcAbsY (a16 : Word) (s : State) : Res State := official 0x79 .adc 4 (.absoluteY a16) opAdc s
/-- `ADC $nnnn,X` (R141) -/
def execAdcAbsX (a16 : Word) (s : State) : Res State := official 0x7D .adc 4 (.absoluteX a16) opAdc s

/-- SBC (42_alu.md R142). -/
def opSbc : Executor := readClass fun v s =>
  let q := subtractWithBorrow s.a v s.p
  { s with a := q.1, p := q.2 }

/-- `SBC ($nn,X)` (R142) -/
def execSbcIndX (d8 : Byte) (s : State) : Res State := official 0xE1 .sbc 6 (.indirectX d8) opSbc s
/-- `SBC $nn` (R142) -/
def execSbcZp (d8 : Byte) (s : State) : Res State := official 0xE5 .sbc 3 (.zeroPage d8) opSbc s
/-- `SBC #$nn` (R142) -/
def execSbcImm (d8 : Byte) (s : State) : Res State := official 0xE9 .sbc 2 (.immediate d8) opSbc s
/-- `SBC $nnnn` (R142) -/
def execSbcAbs (a16 : Word) (s : State) : Res State := official 0xED .sbc 4 (.absolute a16) opSbc s
/-- `SBC ($nn),Y` (R142) -/
def execSbcIndY (d8 : Byte) (s : State) : Res State := official 0xF1 .sbc 5 (.indirectY d8) opSbc s
/-- `SBC $nn,X` (R142) -/
def execSbcZpX (d8 : Byte) (s : State) : Res State := official 0xF5 .sbc 4 (.zeroPageX d8) opSbc s
/-- `SBC $nnnn,Y` (R142) -/
def execSbcAbsY (a16 : Word) (s : State) : Res State := official 0xF9 .sbc 4 (.absoluteY a16) opSbc s
/-- `SBC $nnnn,X` (R142) -/
def execSbcAbsX (a16 : Word) (s : State) : Res State := official 0xFD .sbc 4 (.absoluteX a16) opSbc s

/-- AND (42_alu.md R143). -/
def opAnd : Executor := readClass fun v s => { s with a := s.a &&& v, p := setZN (s.a &&& v) s.p }

/-- `AND ($nn,X)` (R143) -/
def execAndIndX (d8 : Byte) (s : State) : Res State := official 0x21 .and 6 (.indirectX d8) opAnd s
/-- `AND $nn` (R143) -/
def execAndZp (d8 : Byte) (s : State) : Res State := official 0x25 .and 3 (.zeroPage d8) opAnd s
/-- `AND #$nn` (R143) -/
def execAndImm (d8 : Byte) (s : State) : Res State := official 0x29 .and 2 (.immediate d8) opAnd s
/-- `AND $nnnn` (R143) -/
def execAndAbs (a16 : Word) (s : State) : Res State := official 0x2D .and 4 (.absolute a16) opAnd s
/-- `AND ($nn),Y` (R143) -/
def execAndIndY (d8 : Byte) (s : State) : Res State := official 0x31 .and 5 (.indirectY d8) opAnd s
/-- `AND $nn,X` (R143) -/
def execAndZpX (d8 : Byte) (s : State) : Res State := official 0x35 .and 4 (.zeroPageX d8) opAnd s
/-- `AND $nnnn,Y` (R143) -/
def execAndAbsY (a16 : Word) (s : State) : Res State := official 0x39 .and 4 (.absoluteY a16) opAnd s
/-- `AND $nnnn,X` (R143) -/
def execAndAbsX (a16 : Word) (s : State) : Res State := official 0x3D .and 4 (.absoluteX a16) opAnd s

/-- EOR (42_alu.md R144). -/
def opEor : Executor := readClass fun v s => { s with a := s.a ^^^ v, p := setZN (s.a ^^^ v) s.p }

/-- `EOR ($nn,X)` (R144) -/
def execEorIndX (d8 : Byte) (s : State) : Res State := official 0x41 .eor 6 (.indirectX d8) opEor s
/-- `EOR $nn` (R144) -/
def execEorZp (d8 : Byte) (s : State) : Res State := official 0x45 .eor 3 (.zeroPage d8) opEor s
/-- `EOR #$nn` (R144) -/
def execEorImm (d8 : Byte) (s : State) : Res State := official 0x49 .eor 2 (.immediate d8) opEor s
/-- `EOR $nnnn` (R144) -/
def execEorAbs (a16 : Word) (s : State) : Res State := official 0x4D .eor 4 (.absolute a16) opEor s
/-- `EOR ($nn),Y` (R144) -/
def execEorIndY (d8 : Byte) (s : State) : Res State := official 0x51 .eor 5 (.indirectY d8) opEor s
/-- `EOR $nn,X` (R144) -/
def execEorZpX (d8 : Byte) (s : State) : Res State := official 0x55 .eor 4 (.zeroPageX d8) opEor s
/-- `EOR $nnnn,Y` (R144) -/
def execEorAbsY (a16 : Word) (s : State) : Res State := official 0x59 .eor 4 (.absoluteY a16) opEor s
/-- `EOR $nnnn,X` (R144) -/
def execEorAbsX (a16 : Word) (s : State) : Res State := official 0x5D .eor 4 (.absoluteX a16) opEor s

/-- ORA (42_alu.md R145). -/
def opOra : Executor := readClass fun v s => { s with a := s.a ||| v, p := setZN (s.a ||| v) s.p }

/-- `ORA ($nn,X)` (R145) -/
def execOraIndX (d8 : Byte) (s : State) : Res State := official 0x01 .ora 6 (.indirectX d8) opOra s
/-- `ORA $nn` (R145) -/
def execOraZp (d8 : Byte) (s : State) : Res State := official 0x05 .ora 3 (.zeroPage d8) opOra s
/-- `ORA #$nn` (R145) -/
def execOraImm (d8 : Byte) (s : State) : Res State := official 0x09 .ora 2 (.immediate d8) opOra s
/-- `ORA $nnnn` (R145) -/
def execOraAbs (a16 : Word) (s : State) : Res State := official 0x0D .ora 4 (.absolute a16) opOra s
/-- `ORA ($nn),Y` (R145) -/
def execOraIndY (d8 : Byte) (s : State) : Res State := official 0x11 .ora 5 (.indirectY d8) opOra s
/-- `ORA $nn,X` (R145) -/
def execOraZpX (d8 : Byte) (s : State) : Res State := official 0x15 .ora 4 (.zeroPageX d8) opOra s
/-- `ORA $nnnn,Y` (R145) -/
def execOraAbsY (a16 : Word) (s : State) : Res State := official 0x19 .ora 4 (.absoluteY a16) opOra s
/-- `ORA $nnnn,X` (R145) -/
def execOraAbsX (a16 : Word) (s : State) : Res State := official 0x1D .ora 4 (.absoluteX a16) opOra s

end Sys2Proof.Machine
end

