-- ==== Sys2Proof/Machine/Control.lean ====
section
/-! DEFINITION. Control transfer and branches (46_control_transfer.md). An executor per operation, a meaning per row. -/

namespace Sys2Proof.Machine

/-- JMP (46_control_transfer.md R190). -/
def opJmp : Executor := direct fun s => { s with pc := s.addressAbsolute }

/-- `JMP $nnnn` (R190) -/
def execJmpAbs (a16 : Word) (s : State) : Res State := official 0x4C .jmp 3 (.absolute a16) opJmp s
/-- `JMP ($nnnn)` (R190) -/
def execJmpInd (a16 : Word) (s : State) : Res State := official 0x6C .jmp 5 (.indirect a16) opJmp s

/-- JSR: pushes the address of its own last byte (46_control_transfer.md R191). -/
def opJsr : Executor := fun _ s =>
  let s1 := push16 (s.pc - 1) s
  done { s1 with pc := s1.addressAbsolute }

/-- `JSR $nnnn` (R191) -/
def execJsrAbs (a16 : Word) (s : State) : Res State := official 0x20 .jsr 6 (.absolute a16) opJsr s

/-- RTI (46_control_transfer.md R192). -/
def opRti : Executor := fun _ s => andThen (returnFromInterrupt s) done

/-- `RTI` (R192) -/
def execRti (s : State) : Res State := official 0x40 .rti 6 .implied opRti s

/-- RTS (46_control_transfer.md R193). -/
def opRts : Executor := fun _ s => andThen (pull16 s) fun r => done { r.2 with pc := r.1 + 1 }

/-- `RTS` (R193) -/
def execRts (s : State) : Res State := official 0x60 .rts 6 .implied opRts s

/-- `Branch(cond)`: pc is the address of the next sequential instruction (46_control_transfer.md R194). -/
def branch (cond : State → Bool) : Executor := fun _ s =>
  if cond s then
    let t := s.pc + s.addressRelative
    .next (if pageDiffers t s.pc then 2 else 1, { s with pc := t })
  else done s

/-- BCC (46_control_transfer.md R195). -/
def opBcc : Executor := branch fun s => !flag bitC s.p

/-- `BCC $nnnn (target)` (R195) -/
def execBcc (offset : Int) (s : State) : Res State := official 0x90 .bcc 2 (.relative (displacementByte offset)) opBcc s

/-- BCS (46_control_transfer.md R196). -/
def opBcs : Executor := branch fun s => flag bitC s.p

/-- `BCS $nnnn (target)` (R196) -/
def execBcs (offset : Int) (s : State) : Res State := official 0xB0 .bcs 2 (.relative (displacementByte offset)) opBcs s

/-- BEQ (46_control_transfer.md R197). -/
def opBeq : Executor := branch fun s => flag bitZ s.p

/-- `BEQ $nnnn (target)` (R197) -/
def execBeq (offset : Int) (s : State) : Res State := official 0xF0 .beq 2 (.relative (displacementByte offset)) opBeq s

/-- BNE (46_control_transfer.md R198). -/
def opBne : Executor := branch fun s => !flag bitZ s.p

/-- `BNE $nnnn (target)` (R198) -/
def execBne (offset : Int) (s : State) : Res State := official 0xD0 .bne 2 (.relative (displacementByte offset)) opBne s

/-- BMI (46_control_transfer.md R199). -/
def opBmi : Executor := branch fun s => flag bitN s.p

/-- `BMI $nnnn (target)` (R199) -/
def execBmi (offset : Int) (s : State) : Res State := official 0x30 .bmi 2 (.relative (displacementByte offset)) opBmi s

/-- BPL (46_control_transfer.md R200). -/
def opBpl : Executor := branch fun s => !flag bitN s.p

/-- `BPL $nnnn (target)` (R200) -/
def execBpl (offset : Int) (s : State) : Res State := official 0x10 .bpl 2 (.relative (displacementByte offset)) opBpl s

/-- BVC (46_control_transfer.md R201). -/
def opBvc : Executor := branch fun s => !flag bitV s.p

/-- `BVC $nnnn (target)` (R201) -/
def execBvc (offset : Int) (s : State) : Res State := official 0x50 .bvc 2 (.relative (displacementByte offset)) opBvc s

/-- BVS (46_control_transfer.md R202). -/
def opBvs : Executor := branch fun s => flag bitV s.p

/-- `BVS $nnnn (target)` (R202) -/
def execBvs (offset : Int) (s : State) : Res State := official 0x70 .bvs 2 (.relative (displacementByte offset)) opBvs s

end Sys2Proof.Machine
end

