-- ==== Sys2Proof/Machine/FlagCompare.lean ====
section
/-! DEFINITION. Flag instructions and compares (45_flags_compare.md). An executor per operation, a meaning per row. -/

namespace Sys2Proof.Machine

/-- SEC (45_flags_compare.md R175). -/
def opSec : Executor := direct fun s => { s with p := setFlag bitC true s.p }

/-- `SEC` (R175) -/
def execSec (s : State) : Res State := official 0x38 .sec 2 .implied opSec s

/-- SED (45_flags_compare.md R176). -/
def opSed : Executor := direct fun s => { s with p := setFlag bitD true s.p }

/-- `SED` (R176) -/
def execSed (s : State) : Res State := official 0xF8 .sed 2 .implied opSed s

/-- SEI (45_flags_compare.md R177). -/
def opSei : Executor := direct fun s => { s with p := setFlag bitI true s.p }

/-- `SEI` (R177) -/
def execSei (s : State) : Res State := official 0x78 .sei 2 .implied opSei s

/-- CLC (45_flags_compare.md R178). -/
def opClc : Executor := direct fun s => { s with p := setFlag bitC false s.p }

/-- `CLC` (R178) -/
def execClc (s : State) : Res State := official 0x18 .clc 2 .implied opClc s

/-- CLD (45_flags_compare.md R179). -/
def opCld : Executor := direct fun s => { s with p := setFlag bitD false s.p }

/-- `CLD` (R179) -/
def execCld (s : State) : Res State := official 0xD8 .cld 2 .implied opCld s

/-- CLI (45_flags_compare.md R180). -/
def opCli : Executor := direct fun s => { s with p := setFlag bitI false s.p }

/-- `CLI` (R180) -/
def execCli (s : State) : Res State := official 0x58 .cli 2 .implied opCli s

/-- CLV (45_flags_compare.md R181). -/
def opClv : Executor := direct fun s => { s with p := setFlag bitV false s.p }

/-- `CLV` (R181) -/
def execClv (s : State) : Res State := official 0xB8 .clv 2 .implied opClv s

/-- CMP (45_flags_compare.md R183). -/
def opCmp : Executor := readClass fun v s => { s with p := compareFlags s.a v s.p }

/-- `CMP ($nn,X)` (R183) -/
def execCmpIndX (d8 : Byte) (s : State) : Res State := official 0xC1 .cmp 6 (.indirectX d8) opCmp s
/-- `CMP $nn` (R183) -/
def execCmpZp (d8 : Byte) (s : State) : Res State := official 0xC5 .cmp 3 (.zeroPage d8) opCmp s
/-- `CMP #$nn` (R183) -/
def execCmpImm (d8 : Byte) (s : State) : Res State := official 0xC9 .cmp 2 (.immediate d8) opCmp s
/-- `CMP $nnnn` (R183) -/
def execCmpAbs (a16 : Word) (s : State) : Res State := official 0xCD .cmp 4 (.absolute a16) opCmp s
/-- `CMP ($nn),Y` (R183) -/
def execCmpIndY (d8 : Byte) (s : State) : Res State := official 0xD1 .cmp 5 (.indirectY d8) opCmp s
/-- `CMP $nn,X` (R183) -/
def execCmpZpX (d8 : Byte) (s : State) : Res State := official 0xD5 .cmp 4 (.zeroPageX d8) opCmp s
/-- `CMP $nnnn,Y` (R183) -/
def execCmpAbsY (a16 : Word) (s : State) : Res State := official 0xD9 .cmp 4 (.absoluteY a16) opCmp s
/-- `CMP $nnnn,X` (R183) -/
def execCmpAbsX (a16 : Word) (s : State) : Res State := official 0xDD .cmp 4 (.absoluteX a16) opCmp s

/-- CPX (45_flags_compare.md R184). -/
def opCpx : Executor := readClass fun v s => { s with p := compareFlags s.x v s.p }

/-- `CPX #$nn` (R184) -/
def execCpxImm (d8 : Byte) (s : State) : Res State := official 0xE0 .cpx 2 (.immediate d8) opCpx s
/-- `CPX $nn` (R184) -/
def execCpxZp (d8 : Byte) (s : State) : Res State := official 0xE4 .cpx 3 (.zeroPage d8) opCpx s
/-- `CPX $nnnn` (R184) -/
def execCpxAbs (a16 : Word) (s : State) : Res State := official 0xEC .cpx 4 (.absolute a16) opCpx s

/-- CPY (45_flags_compare.md R185). -/
def opCpy : Executor := readClass fun v s => { s with p := compareFlags s.y v s.p }

/-- `CPY #$nn` (R185) -/
def execCpyImm (d8 : Byte) (s : State) : Res State := official 0xC0 .cpy 2 (.immediate d8) opCpy s
/-- `CPY $nn` (R185) -/
def execCpyZp (d8 : Byte) (s : State) : Res State := official 0xC4 .cpy 3 (.zeroPage d8) opCpy s
/-- `CPY $nnnn` (R185) -/
def execCpyAbs (a16 : Word) (s : State) : Res State := official 0xCC .cpy 4 (.absolute a16) opCpy s

end Sys2Proof.Machine
end

