-- ==== Sys2Proof/Machine/LoadStore.lean ====
section
/-! DEFINITION. Loads and stores: LDA LDX LDY STA STX STY (44_load_store.md). An executor per operation, a meaning per row. -/

namespace Sys2Proof.Machine

/-- LDA (44_load_store.md R165). -/
def opLda : Executor := readClass fun v s => { s with a := v, p := setZN v s.p }

/-- `LDA ($nn,X)` (R165) -/
def execLdaIndX (d8 : Byte) (s : State) : Res State := official 0xA1 .lda 6 (.indirectX d8) opLda s
/-- `LDA $nn` (R165) -/
def execLdaZp (d8 : Byte) (s : State) : Res State := official 0xA5 .lda 3 (.zeroPage d8) opLda s
/-- `LDA #$nn` (R165) -/
def execLdaImm (d8 : Byte) (s : State) : Res State := official 0xA9 .lda 2 (.immediate d8) opLda s
/-- `LDA $nnnn` (R165) -/
def execLdaAbs (a16 : Word) (s : State) : Res State := official 0xAD .lda 4 (.absolute a16) opLda s
/-- `LDA ($nn),Y` (R165) -/
def execLdaIndY (d8 : Byte) (s : State) : Res State := official 0xB1 .lda 5 (.indirectY d8) opLda s
/-- `LDA $nn,X` (R165) -/
def execLdaZpX (d8 : Byte) (s : State) : Res State := official 0xB5 .lda 4 (.zeroPageX d8) opLda s
/-- `LDA $nnnn,Y` (R165) -/
def execLdaAbsY (a16 : Word) (s : State) : Res State := official 0xB9 .lda 4 (.absoluteY a16) opLda s
/-- `LDA $nnnn,X` (R165) -/
def execLdaAbsX (a16 : Word) (s : State) : Res State := official 0xBD .lda 4 (.absoluteX a16) opLda s

/-- LDX (44_load_store.md R166). -/
def opLdx : Executor := readClass fun v s => { s with x := v, p := setZN v s.p }

/-- `LDX #$nn` (R166) -/
def execLdxImm (d8 : Byte) (s : State) : Res State := official 0xA2 .ldx 2 (.immediate d8) opLdx s
/-- `LDX $nn` (R166) -/
def execLdxZp (d8 : Byte) (s : State) : Res State := official 0xA6 .ldx 3 (.zeroPage d8) opLdx s
/-- `LDX $nnnn` (R166) -/
def execLdxAbs (a16 : Word) (s : State) : Res State := official 0xAE .ldx 4 (.absolute a16) opLdx s
/-- `LDX $nn,Y` (R166) -/
def execLdxZpY (d8 : Byte) (s : State) : Res State := official 0xB6 .ldx 4 (.zeroPageY d8) opLdx s
/-- `LDX $nnnn,Y` (R166) -/
def execLdxAbsY (a16 : Word) (s : State) : Res State := official 0xBE .ldx 4 (.absoluteY a16) opLdx s

/-- LDY (44_load_store.md R167). -/
def opLdy : Executor := readClass fun v s => { s with y := v, p := setZN v s.p }

/-- `LDY #$nn` (R167) -/
def execLdyImm (d8 : Byte) (s : State) : Res State := official 0xA0 .ldy 2 (.immediate d8) opLdy s
/-- `LDY $nn` (R167) -/
def execLdyZp (d8 : Byte) (s : State) : Res State := official 0xA4 .ldy 3 (.zeroPage d8) opLdy s
/-- `LDY $nnnn` (R167) -/
def execLdyAbs (a16 : Word) (s : State) : Res State := official 0xAC .ldy 4 (.absolute a16) opLdy s
/-- `LDY $nn,X` (R167) -/
def execLdyZpX (d8 : Byte) (s : State) : Res State := official 0xB4 .ldy 4 (.zeroPageX d8) opLdy s
/-- `LDY $nnnn,X` (R167) -/
def execLdyAbsX (a16 : Word) (s : State) : Res State := official 0xBC .ldy 4 (.absoluteX a16) opLdy s

/-- STA (44_load_store.md R168). -/
def opSta : Executor := storeClass fun s => s.a

/-- `STA ($nn,X)` (R168) -/
def execStaIndX (d8 : Byte) (s : State) : Res State := official 0x81 .sta 6 (.indirectX d8) opSta s
/-- `STA $nn` (R168) -/
def execStaZp (d8 : Byte) (s : State) : Res State := official 0x85 .sta 3 (.zeroPage d8) opSta s
/-- `STA $nnnn` (R168) -/
def execStaAbs (a16 : Word) (s : State) : Res State := official 0x8D .sta 4 (.absolute a16) opSta s
/-- `STA ($nn),Y` (R168) -/
def execStaIndY (d8 : Byte) (s : State) : Res State := official 0x91 .sta 6 (.indirectY d8) opSta s
/-- `STA $nn,X` (R168) -/
def execStaZpX (d8 : Byte) (s : State) : Res State := official 0x95 .sta 4 (.zeroPageX d8) opSta s
/-- `STA $nnnn,Y` (R168) -/
def execStaAbsY (a16 : Word) (s : State) : Res State := official 0x99 .sta 5 (.absoluteY a16) opSta s
/-- `STA $nnnn,X` (R168) -/
def execStaAbsX (a16 : Word) (s : State) : Res State := official 0x9D .sta 5 (.absoluteX a16) opSta s

/-- STX (44_load_store.md R169). -/
def opStx : Executor := storeClass fun s => s.x

/-- `STX $nn` (R169) -/
def execStxZp (d8 : Byte) (s : State) : Res State := official 0x86 .stx 3 (.zeroPage d8) opStx s
/-- `STX $nnnn` (R169) -/
def execStxAbs (a16 : Word) (s : State) : Res State := official 0x8E .stx 4 (.absolute a16) opStx s
/-- `STX $nn,Y` (R169) -/
def execStxZpY (d8 : Byte) (s : State) : Res State := official 0x96 .stx 4 (.zeroPageY d8) opStx s

/-- STY (44_load_store.md R170). -/
def opSty : Executor := storeClass fun s => s.y

/-- `STY $nn` (R170) -/
def execStyZp (d8 : Byte) (s : State) : Res State := official 0x84 .sty 3 (.zeroPage d8) opSty s
/-- `STY $nnnn` (R170) -/
def execStyAbs (a16 : Word) (s : State) : Res State := official 0x8C .sty 4 (.absolute a16) opSty s
/-- `STY $nn,X` (R170) -/
def execStyZpX (d8 : Byte) (s : State) : Res State := official 0x94 .sty 4 (.zeroPageX d8) opSty s

end Sys2Proof.Machine
end

