-- ==== Sys2Proof/Machine/Shift.lean ====
section
/-! DEFINITION. Shifts, rotates, increments and decrements (43_shift_incdec.md). An executor per operation, a meaning per row. -/

namespace Sys2Proof.Machine

/-- ASL (43_shift_incdec.md R151), by the template R150. -/
def opAsl : Executor := modify aslByte

/-- `ASL $nn` (R151) -/
def execAslZp (d8 : Byte) (s : State) : Res State := official 0x06 .asl 5 (.zeroPage d8) opAsl s
/-- `ASL A` (R151) -/
def execAslAcc (s : State) : Res State := official 0x0A .asl 2 .accumulator opAsl s
/-- `ASL $nnnn` (R151) -/
def execAslAbs (a16 : Word) (s : State) : Res State := official 0x0E .asl 6 (.absolute a16) opAsl s
/-- `ASL $nn,X` (R151) -/
def execAslZpX (d8 : Byte) (s : State) : Res State := official 0x16 .asl 6 (.zeroPageX d8) opAsl s
/-- `ASL $nnnn,X` (R151) -/
def execAslAbsX (a16 : Word) (s : State) : Res State := official 0x1E .asl 7 (.absoluteX a16) opAsl s

/-- LSR (43_shift_incdec.md R152), by the template R150. -/
def opLsr : Executor := modify lsrByte

/-- `LSR $nn` (R152) -/
def execLsrZp (d8 : Byte) (s : State) : Res State := official 0x46 .lsr 5 (.zeroPage d8) opLsr s
/-- `LSR A` (R152) -/
def execLsrAcc (s : State) : Res State := official 0x4A .lsr 2 .accumulator opLsr s
/-- `LSR $nnnn` (R152) -/
def execLsrAbs (a16 : Word) (s : State) : Res State := official 0x4E .lsr 6 (.absolute a16) opLsr s
/-- `LSR $nn,X` (R152) -/
def execLsrZpX (d8 : Byte) (s : State) : Res State := official 0x56 .lsr 6 (.zeroPageX d8) opLsr s
/-- `LSR $nnnn,X` (R152) -/
def execLsrAbsX (a16 : Word) (s : State) : Res State := official 0x5E .lsr 7 (.absoluteX a16) opLsr s

/-- ROL (43_shift_incdec.md R153), by the template R150. -/
def opRol : Executor := modify rolByte

/-- `ROL $nn` (R153) -/
def execRolZp (d8 : Byte) (s : State) : Res State := official 0x26 .rol 5 (.zeroPage d8) opRol s
/-- `ROL A` (R153) -/
def execRolAcc (s : State) : Res State := official 0x2A .rol 2 .accumulator opRol s
/-- `ROL $nnnn` (R153) -/
def execRolAbs (a16 : Word) (s : State) : Res State := official 0x2E .rol 6 (.absolute a16) opRol s
/-- `ROL $nn,X` (R153) -/
def execRolZpX (d8 : Byte) (s : State) : Res State := official 0x36 .rol 6 (.zeroPageX d8) opRol s
/-- `ROL $nnnn,X` (R153) -/
def execRolAbsX (a16 : Word) (s : State) : Res State := official 0x3E .rol 7 (.absoluteX a16) opRol s

/-- ROR (43_shift_incdec.md R154), by the template R150. -/
def opRor : Executor := modify rorByte

/-- `ROR $nn` (R154) -/
def execRorZp (d8 : Byte) (s : State) : Res State := official 0x66 .ror 5 (.zeroPage d8) opRor s
/-- `ROR A` (R154) -/
def execRorAcc (s : State) : Res State := official 0x6A .ror 2 .accumulator opRor s
/-- `ROR $nnnn` (R154) -/
def execRorAbs (a16 : Word) (s : State) : Res State := official 0x6E .ror 6 (.absolute a16) opRor s
/-- `ROR $nn,X` (R154) -/
def execRorZpX (d8 : Byte) (s : State) : Res State := official 0x76 .ror 6 (.zeroPageX d8) opRor s
/-- `ROR $nnnn,X` (R154) -/
def execRorAbsX (a16 : Word) (s : State) : Res State := official 0x7E .ror 7 (.absoluteX a16) opRor s

/-- INC (43_shift_incdec.md R155), by the template R150. -/
def opInc : Executor := modify incByte

/-- `INC $nn` (R155) -/
def execIncZp (d8 : Byte) (s : State) : Res State := official 0xE6 .inc 5 (.zeroPage d8) opInc s
/-- `INC $nnnn` (R155) -/
def execIncAbs (a16 : Word) (s : State) : Res State := official 0xEE .inc 6 (.absolute a16) opInc s
/-- `INC $nn,X` (R155) -/
def execIncZpX (d8 : Byte) (s : State) : Res State := official 0xF6 .inc 6 (.zeroPageX d8) opInc s
/-- `INC $nnnn,X` (R155) -/
def execIncAbsX (a16 : Word) (s : State) : Res State := official 0xFE .inc 7 (.absoluteX a16) opInc s

/-- DEC (43_shift_incdec.md R156), by the template R150. -/
def opDec : Executor := modify decByte

/-- `DEC $nn` (R156) -/
def execDecZp (d8 : Byte) (s : State) : Res State := official 0xC6 .dec 5 (.zeroPage d8) opDec s
/-- `DEC $nnnn` (R156) -/
def execDecAbs (a16 : Word) (s : State) : Res State := official 0xCE .dec 6 (.absolute a16) opDec s
/-- `DEC $nn,X` (R156) -/
def execDecZpX (d8 : Byte) (s : State) : Res State := official 0xD6 .dec 6 (.zeroPageX d8) opDec s
/-- `DEC $nnnn,X` (R156) -/
def execDecAbsX (a16 : Word) (s : State) : Res State := official 0xDE .dec 7 (.absoluteX a16) opDec s

/-- INX (43_shift_incdec.md R157). -/
def opInx : Executor := direct fun s => { s with x := s.x + 1, p := setZN (s.x + 1) s.p }

/-- `INX` (R157) -/
def execInx (s : State) : Res State := official 0xE8 .inx 2 .implied opInx s

/-- INY (43_shift_incdec.md R158). -/
def opIny : Executor := direct fun s => { s with y := s.y + 1, p := setZN (s.y + 1) s.p }

/-- `INY` (R158) -/
def execIny (s : State) : Res State := official 0xC8 .iny 2 .implied opIny s

/-- DEX (43_shift_incdec.md R159). -/
def opDex : Executor := direct fun s => { s with x := s.x - 1, p := setZN (s.x - 1) s.p }

/-- `DEX` (R159) -/
def execDex (s : State) : Res State := official 0xCA .dex 2 .implied opDex s

/-- DEY (43_shift_incdec.md R160). -/
def opDey : Executor := direct fun s => { s with y := s.y - 1, p := setZN (s.y - 1) s.p }

/-- `DEY` (R160) -/
def execDey (s : State) : Res State := official 0x88 .dey 2 .implied opDey s

end Sys2Proof.Machine
end

