-- ==== Sys2Proof/Machine/Stack.lean ====
section
/-! DEFINITION. Stack operations and register transfers (47_stack_transfer.md). An executor per operation, a meaning per row. -/

namespace Sys2Proof.Machine

/-- PHA (47_stack_transfer.md R211). -/
def opPha : Executor := direct fun s => push8 s.a s

/-- `PHA` (R211) -/
def execPha (s : State) : Res State := official 0x48 .pha 3 .implied opPha s

/-- PHP (47_stack_transfer.md R212). -/
def opPhp : Executor := direct fun s => push8 (pushedBySoftware s.p) s

/-- `PHP` (R212) -/
def execPhp (s : State) : Res State := official 0x08 .php 3 .implied opPhp s

/-- PLA (47_stack_transfer.md R213). -/
def opPla : Executor := fun _ s =>
  andThen (pull8 s) fun r => done { r.2 with a := r.1, p := setZN r.1 r.2.p }

/-- `PLA` (R213) -/
def execPla (s : State) : Res State := official 0x68 .pla 4 .implied opPla s

/-- PLP (47_stack_transfer.md R214). -/
def opPlp : Executor := fun _ s => andThen (pull8 s) fun r => done { r.2 with p := pulledStatus r.1 }

/-- `PLP` (R214) -/
def execPlp (s : State) : Res State := official 0x28 .plp 4 .implied opPlp s

/-- TAX (47_stack_transfer.md R215). -/
def opTax : Executor := direct fun s => { s with x := s.a, p := setZN s.a s.p }

/-- `TAX` (R215) -/
def execTax (s : State) : Res State := official 0xAA .tax 2 .implied opTax s

/-- TAY (47_stack_transfer.md R216). -/
def opTay : Executor := direct fun s => { s with y := s.a, p := setZN s.a s.p }

/-- `TAY` (R216) -/
def execTay (s : State) : Res State := official 0xA8 .tay 2 .implied opTay s

/-- TSX (47_stack_transfer.md R217). -/
def opTsx : Executor := direct fun s => { s with x := s.sp, p := setZN s.sp s.p }

/-- `TSX` (R217) -/
def execTsx (s : State) : Res State := official 0xBA .tsx 2 .implied opTsx s

/-- TXA (47_stack_transfer.md R218). -/
def opTxa : Executor := direct fun s => { s with a := s.x, p := setZN s.x s.p }

/-- `TXA` (R218) -/
def execTxa (s : State) : Res State := official 0x8A .txa 2 .implied opTxa s

/-- TXS: the one transfer that sets no flag (47_stack_transfer.md R219). -/
def opTxs : Executor := direct fun s => { s with sp := s.x }

/-- `TXS` (R219) -/
def execTxs (s : State) : Res State := official 0x9A .txs 2 .implied opTxs s

/-- TYA (47_stack_transfer.md R220). -/
def opTya : Executor := direct fun s => { s with a := s.y, p := setZN s.y s.p }

/-- `TYA` (R220) -/
def execTya (s : State) : Res State := official 0x98 .tya 2 .implied opTya s

end Sys2Proof.Machine
end

