-- ==== Sys2Proof/Machine/System.lean ====
section
/-! DEFINITION. System: BRK BIT NOP (48_system.md). An executor per operation, a meaning per row. -/

namespace Sys2Proof.Machine

/-- BRK: the byte after it is skipped, the pushed status has bit 4 set (48_system.md R225). -/
def opBrk : Executor := fun _ s =>
  andThen (enterInterrupt vecIrq (s.pc + 1) (pushedBySoftware s.p) s) done

/-- `BRK` (R225) -/
def execBrk (s : State) : Res State := official 0x00 .brk 7 .implied opBrk s

/-- BIT (48_system.md R226). -/
def opBit : Executor := readClass fun v s => { s with p := bitTestFlags s.a v s.p }

/-- `BIT $nn` (R226) -/
def execBitZp (d8 : Byte) (s : State) : Res State := official 0x24 .bit 3 (.zeroPage d8) opBit s
/-- `BIT $nnnn` (R226) -/
def execBitAbs (a16 : Word) (s : State) : Res State := official 0x2C .bit 4 (.absolute a16) opBit s

/-- NOP (48_system.md R227). -/
def opNop : Executor := direct fun s => s

/-- `NOP` (R227) -/
def execNop (s : State) : Res State := official 0xEA .nop 2 .implied opNop s

end Sys2Proof.Machine
end

