-- ==== Sys2Proof/Machine/Unofficial.lean ====
section
/-! DEFINITION. The fourteen unofficial operations (49_unofficial.md). Each meaning goes through the policy of R235: `nop`, `full` or
`fault`. An executor per operation (its `full` behaviour), a meaning per row. -/

namespace Sys2Proof.Machine

/-- ALR under `full` (49_unofficial.md R236). -/
def opAlr : Executor := readClass fun v s =>
  let q := alrByte s.a v s.p
  { s with a := q.1, p := q.2 }

/-- `ALR #$nn` (R236) -/
def execAlrImm (d8 : Byte) (s : State) : Res State := unofficial 0x4B .alr 2 (.immediate d8) opAlr s

/-- ANC under `full` (49_unofficial.md R237). -/
def opAnc : Executor := readClass fun v s =>
  let q := ancByte s.a v s.p
  { s with a := q.1, p := q.2 }

/-- `ANC #$nn` (R237) -/
def execAncImm0B (d8 : Byte) (s : State) : Res State := unofficial 0x0B .anc 2 (.immediate d8) opAnc s
/-- `ANC #$nn` (R237) -/
def execAncImm2B (d8 : Byte) (s : State) : Res State := unofficial 0x2B .anc 2 (.immediate d8) opAnc s

/-- ARR under `full` (49_unofficial.md R238). -/
def opArr : Executor := readClass fun v s =>
  let q := arrByte s.a v s.p
  { s with a := q.1, p := q.2 }

/-- `ARR #$nn` (R238) -/
def execArrImm (d8 : Byte) (s : State) : Res State := unofficial 0x6B .arr 2 (.immediate d8) opArr s

/-- AXS under `full` (49_unofficial.md R239). -/
def opAxs : Executor := readClass fun v s =>
  let q := axsByte s.a s.x v s.p
  { s with x := q.1, p := q.2 }

/-- `AXS #$nn` (R239) -/
def execAxsImm (d8 : Byte) (s : State) : Res State := unofficial 0xCB .axs 2 (.immediate d8) opAxs s

/-- LAX under `full` (49_unofficial.md R240). -/
def opLax : Executor := readClass fun v s => { s with a := v, x := v, p := setZN v s.p }

/-- `LAX ($nn,X)` (R240) -/
def execLaxIndX (d8 : Byte) (s : State) : Res State := unofficial 0xA3 .lax 6 (.indirectX d8) opLax s
/-- `LAX $nn` (R240) -/
def execLaxZp (d8 : Byte) (s : State) : Res State := unofficial 0xA7 .lax 3 (.zeroPage d8) opLax s
/-- `LAX $nnnn` (R240) -/
def execLaxAbs (a16 : Word) (s : State) : Res State := unofficial 0xAF .lax 4 (.absolute a16) opLax s
/-- `LAX ($nn),Y` (R240) -/
def execLaxIndY (d8 : Byte) (s : State) : Res State := unofficial 0xB3 .lax 5 (.indirectY d8) opLax s
/-- `LAX $nn,Y` (R240) -/
def execLaxZpY (d8 : Byte) (s : State) : Res State := unofficial 0xB7 .lax 4 (.zeroPageY d8) opLax s
/-- `LAX $nnnn,Y` (R240) -/
def execLaxAbsY (a16 : Word) (s : State) : Res State := unofficial 0xBF .lax 4 (.absoluteY a16) opLax s

/-- SAX under `full` (49_unofficial.md R241). -/
def opSax : Executor := storeClass fun s => s.a &&& s.x

/-- `SAX ($nn,X)` (R241) -/
def execSaxIndX (d8 : Byte) (s : State) : Res State := unofficial 0x83 .sax 6 (.indirectX d8) opSax s
/-- `SAX $nn` (R241) -/
def execSaxZp (d8 : Byte) (s : State) : Res State := unofficial 0x87 .sax 3 (.zeroPage d8) opSax s
/-- `SAX $nnnn` (R241) -/
def execSaxAbs (a16 : Word) (s : State) : Res State := unofficial 0x8F .sax 4 (.absolute a16) opSax s
/-- `SAX $nn,Y` (R241) -/
def execSaxZpY (d8 : Byte) (s : State) : Res State := unofficial 0x97 .sax 4 (.zeroPageY d8) opSax s

/-- DCP under `full` (49_unofficial.md R242): the flags are the compare's. -/
def opDcp : Executor := modifyMemory (fun v p => (v - 1, p)) fun r s => { s with p := compareFlags s.a r s.p }

/-- `DCP ($nn,X)` (R242) -/
def execDcpIndX (d8 : Byte) (s : State) : Res State := unofficial 0xC3 .dcp 8 (.indirectX d8) opDcp s
/-- `DCP $nn` (R242) -/
def execDcpZp (d8 : Byte) (s : State) : Res State := unofficial 0xC7 .dcp 5 (.zeroPage d8) opDcp s
/-- `DCP $nnnn` (R242) -/
def execDcpAbs (a16 : Word) (s : State) : Res State := unofficial 0xCF .dcp 6 (.absolute a16) opDcp s
/-- `DCP ($nn),Y` (R242) -/
def execDcpIndY (d8 : Byte) (s : State) : Res State := unofficial 0xD3 .dcp 8 (.indirectY d8) opDcp s
/-- `DCP $nn,X` (R242) -/
def execDcpZpX (d8 : Byte) (s : State) : Res State := unofficial 0xD7 .dcp 6 (.zeroPageX d8) opDcp s
/-- `DCP $nnnn,Y` (R242) -/
def execDcpAbsY (a16 : Word) (s : State) : Res State := unofficial 0xDB .dcp 7 (.absoluteY a16) opDcp s
/-- `DCP $nnnn,X` (R242) -/
def execDcpAbsX (a16 : Word) (s : State) : Res State := unofficial 0xDF .dcp 7 (.absoluteX a16) opDcp s

/-- ISC under `full` (49_unofficial.md R243): the flags are the subtraction's. -/
def opIsc : Executor := modifyMemory (fun v p => (v + 1, p)) fun r s =>
  let q := subtractWithBorrow s.a r s.p
  { s with a := q.1, p := q.2 }

/-- `ISC ($nn,X)` (R243) -/
def execIscIndX (d8 : Byte) (s : State) : Res State := unofficial 0xE3 .isc 8 (.indirectX d8) opIsc s
/-- `ISC $nn` (R243) -/
def execIscZp (d8 : Byte) (s : State) : Res State := unofficial 0xE7 .isc 5 (.zeroPage d8) opIsc s
/-- `ISC $nnnn` (R243) -/
def execIscAbs (a16 : Word) (s : State) : Res State := unofficial 0xEF .isc 6 (.absolute a16) opIsc s
/-- `ISC ($nn),Y` (R243) -/
def execIscIndY (d8 : Byte) (s : State) : Res State := unofficial 0xF3 .isc 8 (.indirectY d8) opIsc s
/-- `ISC $nn,X` (R243) -/
def execIscZpX (d8 : Byte) (s : State) : Res State := unofficial 0xF7 .isc 6 (.zeroPageX d8) opIsc s
/-- `ISC $nnnn,Y` (R243) -/
def execIscAbsY (a16 : Word) (s : State) : Res State := unofficial 0xFB .isc 7 (.absoluteY a16) opIsc s
/-- `ISC $nnnn,X` (R243) -/
def execIscAbsX (a16 : Word) (s : State) : Res State := unofficial 0xFF .isc 7 (.absoluteX a16) opIsc s

/-- RLA under `full` (49_unofficial.md R244). -/
def opRla : Executor := modifyMemory rolByte fun r s => { s with a := s.a &&& r, p := setZN (s.a &&& r) s.p }

/-- `RLA ($nn,X)` (R244) -/
def execRlaIndX (d8 : Byte) (s : State) : Res State := unofficial 0x23 .rla 8 (.indirectX d8) opRla s
/-- `RLA $nn` (R244) -/
def execRlaZp (d8 : Byte) (s : State) : Res State := unofficial 0x27 .rla 5 (.zeroPage d8) opRla s
/-- `RLA $nnnn` (R244) -/
def execRlaAbs (a16 : Word) (s : State) : Res State := unofficial 0x2F .rla 6 (.absolute a16) opRla s
/-- `RLA ($nn),Y` (R244) -/
def execRlaIndY (d8 : Byte) (s : State) : Res State := unofficial 0x33 .rla 8 (.indirectY d8) opRla s
/-- `RLA $nn,X` (R244) -/
def execRlaZpX (d8 : Byte) (s : State) : Res State := unofficial 0x37 .rla 6 (.zeroPageX d8) opRla s
/-- `RLA $nnnn,Y` (R244) -/
def execRlaAbsY (a16 : Word) (s : State) : Res State := unofficial 0x3B .rla 7 (.absoluteY a16) opRla s
/-- `RLA $nnnn,X` (R244) -/
def execRlaAbsX (a16 : Word) (s : State) : Res State := unofficial 0x3F .rla 7 (.absoluteX a16) opRla s

/-- RRA under `full` (49_unofficial.md R245): the addition takes the carry the rotate left. -/
def opRra : Executor := modifyMemory rorByte fun r s =>
  let q := addWithCarry s.a r s.p
  { s with a := q.1, p := q.2 }

/-- `RRA ($nn,X)` (R245) -/
def execRraIndX (d8 : Byte) (s : State) : Res State := unofficial 0x63 .rra 8 (.indirectX d8) opRra s
/-- `RRA $nn` (R245) -/
def execRraZp (d8 : Byte) (s : State) : Res State := unofficial 0x67 .rra 5 (.zeroPage d8) opRra s
/-- `RRA $nnnn` (R245) -/
def execRraAbs (a16 : Word) (s : State) : Res State := unofficial 0x6F .rra 6 (.absolute a16) opRra s
/-- `RRA ($nn),Y` (R245) -/
def execRraIndY (d8 : Byte) (s : State) : Res State := unofficial 0x73 .rra 8 (.indirectY d8) opRra s
/-- `RRA $nn,X` (R245) -/
def execRraZpX (d8 : Byte) (s : State) : Res State := unofficial 0x77 .rra 6 (.zeroPageX d8) opRra s
/-- `RRA $nnnn,Y` (R245) -/
def execRraAbsY (a16 : Word) (s : State) : Res State := unofficial 0x7B .rra 7 (.absoluteY a16) opRra s
/-- `RRA $nnnn,X` (R245) -/
def execRraAbsX (a16 : Word) (s : State) : Res State := unofficial 0x7F .rra 7 (.absoluteX a16) opRra s

/-- SLO under `full` (49_unofficial.md R246). -/
def opSlo : Executor := modifyMemory aslByte fun r s => { s with a := s.a ||| r, p := setZN (s.a ||| r) s.p }

/-- `SLO ($nn,X)` (R246) -/
def execSloIndX (d8 : Byte) (s : State) : Res State := unofficial 0x03 .slo 8 (.indirectX d8) opSlo s
/-- `SLO $nn` (R246) -/
def execSloZp (d8 : Byte) (s : State) : Res State := unofficial 0x07 .slo 5 (.zeroPage d8) opSlo s
/-- `SLO $nnnn` (R246) -/
def execSloAbs (a16 : Word) (s : State) : Res State := unofficial 0x0F .slo 6 (.absolute a16) opSlo s
/-- `SLO ($nn),Y` (R246) -/
def execSloIndY (d8 : Byte) (s : State) : Res State := unofficial 0x13 .slo 8 (.indirectY d8) opSlo s
/-- `SLO $nn,X` (R246) -/
def execSloZpX (d8 : Byte) (s : State) : Res State := unofficial 0x17 .slo 6 (.zeroPageX d8) opSlo s
/-- `SLO $nnnn,Y` (R246) -/
def execSloAbsY (a16 : Word) (s : State) : Res State := unofficial 0x1B .slo 7 (.absoluteY a16) opSlo s
/-- `SLO $nnnn,X` (R246) -/
def execSloAbsX (a16 : Word) (s : State) : Res State := unofficial 0x1F .slo 7 (.absoluteX a16) opSlo s

/-- SRE under `full` (49_unofficial.md R247). -/
def opSre : Executor := modifyMemory lsrByte fun r s => { s with a := s.a ^^^ r, p := setZN (s.a ^^^ r) s.p }

/-- `SRE ($nn,X)` (R247) -/
def execSreIndX (d8 : Byte) (s : State) : Res State := unofficial 0x43 .sre 8 (.indirectX d8) opSre s
/-- `SRE $nn` (R247) -/
def execSreZp (d8 : Byte) (s : State) : Res State := unofficial 0x47 .sre 5 (.zeroPage d8) opSre s
/-- `SRE $nnnn` (R247) -/
def execSreAbs (a16 : Word) (s : State) : Res State := unofficial 0x4F .sre 6 (.absolute a16) opSre s
/-- `SRE ($nn),Y` (R247) -/
def execSreIndY (d8 : Byte) (s : State) : Res State := unofficial 0x53 .sre 8 (.indirectY d8) opSre s
/-- `SRE $nn,X` (R247) -/
def execSreZpX (d8 : Byte) (s : State) : Res State := unofficial 0x57 .sre 6 (.zeroPageX d8) opSre s
/-- `SRE $nnnn,Y` (R247) -/
def execSreAbsY (a16 : Word) (s : State) : Res State := unofficial 0x5B .sre 7 (.absoluteY a16) opSre s
/-- `SRE $nnnn,X` (R247) -/
def execSreAbsX (a16 : Word) (s : State) : Res State := unofficial 0x5F .sre 7 (.absoluteX a16) opSre s

/-- SKB under `full` (49_unofficial.md R248): the operand is read and discarded. -/
def opSkb : Executor := readClass fun _ s => s

/-- `SKB #$nn` (R248) -/
def execSkbImm80 (d8 : Byte) (s : State) : Res State := unofficial 0x80 .skb 2 (.immediate d8) opSkb s
/-- `SKB #$nn` (R248) -/
def execSkbImm82 (d8 : Byte) (s : State) : Res State := unofficial 0x82 .skb 2 (.immediate d8) opSkb s
/-- `SKB #$nn` (R248) -/
def execSkbImm89 (d8 : Byte) (s : State) : Res State := unofficial 0x89 .skb 2 (.immediate d8) opSkb s
/-- `SKB #$nn` (R248) -/
def execSkbImmC2 (d8 : Byte) (s : State) : Res State := unofficial 0xC2 .skb 2 (.immediate d8) opSkb s
/-- `SKB #$nn` (R248) -/
def execSkbImmE2 (d8 : Byte) (s : State) : Res State := unofficial 0xE2 .skb 2 (.immediate d8) opSkb s

/-- IGN under `full` (49_unofficial.md R249): the operand is read and discarded. -/
def opIgn : Executor := readClass fun _ s => s

/-- `IGN $nn` (R249) -/
def execIgnZp04 (d8 : Byte) (s : State) : Res State := unofficial 0x04 .ign 3 (.zeroPage d8) opIgn s
/-- `IGN $nnnn` (R249) -/
def execIgnAbs (a16 : Word) (s : State) : Res State := unofficial 0x0C .ign 4 (.absolute a16) opIgn s
/-- `IGN $nn,X` (R249) -/
def execIgnZpX14 (d8 : Byte) (s : State) : Res State := unofficial 0x14 .ign 4 (.zeroPageX d8) opIgn s
/-- `IGN $nnnn,X` (R249) -/
def execIgnAbsX1C (a16 : Word) (s : State) : Res State := unofficial 0x1C .ign 4 (.absoluteX a16) opIgn s
/-- `IGN $nn,X` (R249) -/
def execIgnZpX34 (d8 : Byte) (s : State) : Res State := unofficial 0x34 .ign 4 (.zeroPageX d8) opIgn s
/-- `IGN $nnnn,X` (R249) -/
def execIgnAbsX3C (a16 : Word) (s : State) : Res State := unofficial 0x3C .ign 4 (.absoluteX a16) opIgn s
/-- `IGN $nn` (R249) -/
def execIgnZp44 (d8 : Byte) (s : State) : Res State := unofficial 0x44 .ign 3 (.zeroPage d8) opIgn s
/-- `IGN $nn,X` (R249) -/
def execIgnZpX54 (d8 : Byte) (s : State) : Res State := unofficial 0x54 .ign 4 (.zeroPageX d8) opIgn s
/-- `IGN $nnnn,X` (R249) -/
def execIgnAbsX5C (a16 : Word) (s : State) : Res State := unofficial 0x5C .ign 4 (.absoluteX a16) opIgn s
/-- `IGN $nn` (R249) -/
def execIgnZp64 (d8 : Byte) (s : State) : Res State := unofficial 0x64 .ign 3 (.zeroPage d8) opIgn s
/-- `IGN $nn,X` (R249) -/
def execIgnZpX74 (d8 : Byte) (s : State) : Res State := unofficial 0x74 .ign 4 (.zeroPageX d8) opIgn s
/-- `IGN $nnnn,X` (R249) -/
def execIgnAbsX7C (a16 : Word) (s : State) : Res State := unofficial 0x7C .ign 4 (.absoluteX a16) opIgn s
/-- `IGN $nn,X` (R249) -/
def execIgnZpXD4 (d8 : Byte) (s : State) : Res State := unofficial 0xD4 .ign 4 (.zeroPageX d8) opIgn s
/-- `IGN $nnnn,X` (R249) -/
def execIgnAbsXDC (a16 : Word) (s : State) : Res State := unofficial 0xDC .ign 4 (.absoluteX a16) opIgn s
/-- `IGN $nn,X` (R249) -/
def execIgnZpXF4 (d8 : Byte) (s : State) : Res State := unofficial 0xF4 .ign 4 (.zeroPageX d8) opIgn s
/-- `IGN $nnnn,X` (R249) -/
def execIgnAbsXFC (a16 : Word) (s : State) : Res State := unofficial 0xFC .ign 4 (.absoluteX a16) opIgn s

end Sys2Proof.Machine
end

