-- ==== Sys2Proof/Machine/Dispatch.lean ====
section
/-! DEFINITION. Dispatch (40_cpu_cycle.md R105): one arm per constructor of Instr. -/

namespace Sys2Proof.Machine

def exec (i : Instr) (s : State) : Host.Outcome State Fault Refusal :=
  match i with
  -- Binary ALU (42_alu.md)
  | .adcIndX d8 => Sys2Proof.Machine.execAdcIndX d8 s
  | .adcZp d8 => Sys2Proof.Machine.execAdcZp d8 s
  | .adcImm d8 => Sys2Proof.Machine.execAdcImm d8 s
  | .adcAbs a16 => Sys2Proof.Machine.execAdcAbs a16 s
  | .adcIndY d8 => Sys2Proof.Machine.execAdcIndY d8 s
  | .adcZpX d8 => Sys2Proof.Machine.execAdcZpX d8 s
  | .adcAbsY a16 => Sys2Proof.Machine.execAdcAbsY a16 s
  | .adcAbsX a16 => Sys2Proof.Machine.execAdcAbsX a16 s
  | .sbcIndX d8 => Sys2Proof.Machine.execSbcIndX d8 s
  | .sbcZp d8 => Sys2Proof.Machine.execSbcZp d8 s
  | .sbcImm d8 => Sys2Proof.Machine.execSbcImm d8 s
  | .sbcAbs a16 => Sys2Proof.Machine.execSbcAbs a16 s
  | .sbcIndY d8 => Sys2Proof.Machine.execSbcIndY d8 s
  | .sbcZpX d8 => Sys2Proof.Machine.execSbcZpX d8 s
  | .sbcAbsY a16 => Sys2Proof.Machine.execSbcAbsY a16 s
  | .sbcAbsX a16 => Sys2Proof.Machine.execSbcAbsX a16 s
  | .andIndX d8 => Sys2Proof.Machine.execAndIndX d8 s
  | .andZp d8 => Sys2Proof.Machine.execAndZp d8 s
  | .andImm d8 => Sys2Proof.Machine.execAndImm d8 s
  | .andAbs a16 => Sys2Proof.Machine.execAndAbs a16 s
  | .andIndY d8 => Sys2Proof.Machine.execAndIndY d8 s
  | .andZpX d8 => Sys2Proof.Machine.execAndZpX d8 s
  | .andAbsY a16 => Sys2Proof.Machine.execAndAbsY a16 s
  | .andAbsX a16 => Sys2Proof.Machine.execAndAbsX a16 s
  | .eorIndX d8 => Sys2Proof.Machine.execEorIndX d8 s
  | .eorZp d8 => Sys2Proof.Machine.execEorZp d8 s
  | .eorImm d8 => Sys2Proof.Machine.execEorImm d8 s
  | .eorAbs a16 => Sys2Proof.Machine.execEorAbs a16 s
  | .eorIndY d8 => Sys2Proof.Machine.execEorIndY d8 s
  | .eorZpX d8 => Sys2Proof.Machine.execEorZpX d8 s
  | .eorAbsY a16 => Sys2Proof.Machine.execEorAbsY a16 s
  | .eorAbsX a16 => Sys2Proof.Machine.execEorAbsX a16 s
  | .oraIndX d8 => Sys2Proof.Machine.execOraIndX d8 s
  | .oraZp d8 => Sys2Proof.Machine.execOraZp d8 s
  | .oraImm d8 => Sys2Proof.Machine.execOraImm d8 s
  | .oraAbs a16 => Sys2Proof.Machine.execOraAbs a16 s
  | .oraIndY d8 => Sys2Proof.Machine.execOraIndY d8 s
  | .oraZpX d8 => Sys2Proof.Machine.execOraZpX d8 s
  | .oraAbsY a16 => Sys2Proof.Machine.execOraAbsY a16 s
  | .oraAbsX a16 => Sys2Proof.Machine.execOraAbsX a16 s
  -- Shifts, rotates, increments, decrements (43_shift_incdec.md)
  | .aslZp d8 => Sys2Proof.Machine.execAslZp d8 s
  | .aslAcc => Sys2Proof.Machine.execAslAcc s
  | .aslAbs a16 => Sys2Proof.Machine.execAslAbs a16 s
  | .aslZpX d8 => Sys2Proof.Machine.execAslZpX d8 s
  | .aslAbsX a16 => Sys2Proof.Machine.execAslAbsX a16 s
  | .lsrZp d8 => Sys2Proof.Machine.execLsrZp d8 s
  | .lsrAcc => Sys2Proof.Machine.execLsrAcc s
  | .lsrAbs a16 => Sys2Proof.Machine.execLsrAbs a16 s
  | .lsrZpX d8 => Sys2Proof.Machine.execLsrZpX d8 s
  | .lsrAbsX a16 => Sys2Proof.Machine.execLsrAbsX a16 s
  | .rolZp d8 => Sys2Proof.Machine.execRolZp d8 s
  | .rolAcc => Sys2Proof.Machine.execRolAcc s
  | .rolAbs a16 => Sys2Proof.Machine.execRolAbs a16 s
  | .rolZpX d8 => Sys2Proof.Machine.execRolZpX d8 s
  | .rolAbsX a16 => Sys2Proof.Machine.execRolAbsX a16 s
  | .rorZp d8 => Sys2Proof.Machine.execRorZp d8 s
  | .rorAcc => Sys2Proof.Machine.execRorAcc s
  | .rorAbs a16 => Sys2Proof.Machine.execRorAbs a16 s
  | .rorZpX d8 => Sys2Proof.Machine.execRorZpX d8 s
  | .rorAbsX a16 => Sys2Proof.Machine.execRorAbsX a16 s
  | .incZp d8 => Sys2Proof.Machine.execIncZp d8 s
  | .incAbs a16 => Sys2Proof.Machine.execIncAbs a16 s
  | .incZpX d8 => Sys2Proof.Machine.execIncZpX d8 s
  | .incAbsX a16 => Sys2Proof.Machine.execIncAbsX a16 s
  | .decZp d8 => Sys2Proof.Machine.execDecZp d8 s
  | .decAbs a16 => Sys2Proof.Machine.execDecAbs a16 s
  | .decZpX d8 => Sys2Proof.Machine.execDecZpX d8 s
  | .decAbsX a16 => Sys2Proof.Machine.execDecAbsX a16 s
  | .inx => Sys2Proof.Machine.execInx s
  | .iny => Sys2Proof.Machine.execIny s
  | .dex => Sys2Proof.Machine.execDex s
  | .dey => Sys2Proof.Machine.execDey s
  -- Loads and stores (44_load_store.md)
  | .ldaIndX d8 => Sys2Proof.Machine.execLdaIndX d8 s
  | .ldaZp d8 => Sys2Proof.Machine.execLdaZp d8 s
  | .ldaImm d8 => Sys2Proof.Machine.execLdaImm d8 s
  | .ldaAbs a16 => Sys2Proof.Machine.execLdaAbs a16 s
  | .ldaIndY d8 => Sys2Proof.Machine.execLdaIndY d8 s
  | .ldaZpX d8 => Sys2Proof.Machine.execLdaZpX d8 s
  | .ldaAbsY a16 => Sys2Proof.Machine.execLdaAbsY a16 s
  | .ldaAbsX a16 => Sys2Proof.Machine.execLdaAbsX a16 s
  | .ldxImm d8 => Sys2Proof.Machine.execLdxImm d8 s
  | .ldxZp d8 => Sys2Proof.Machine.execLdxZp d8 s
  | .ldxAbs a16 => Sys2Proof.Machine.execLdxAbs a16 s
  | .ldxZpY d8 => Sys2Proof.Machine.execLdxZpY d8 s
  | .ldxAbsY a16 => Sys2Proof.Machine.execLdxAbsY a16 s
  | .ldyImm d8 => Sys2Proof.Machine.execLdyImm d8 s
  | .ldyZp d8 => Sys2Proof.Machine.execLdyZp d8 s
  | .ldyAbs a16 => Sys2Proof.Machine.execLdyAbs a16 s
  | .ldyZpX d8 => Sys2Proof.Machine.execLdyZpX d8 s
  | .ldyAbsX a16 => Sys2Proof.Machine.execLdyAbsX a16 s
  | .staIndX d8 => Sys2Proof.Machine.execStaIndX d8 s
  | .staZp d8 => Sys2Proof.Machine.execStaZp d8 s
  | .staAbs a16 => Sys2Proof.Machine.execStaAbs a16 s
  | .staIndY d8 => Sys2Proof.Machine.execStaIndY d8 s
  | .staZpX d8 => Sys2Proof.Machine.execStaZpX d8 s
  | .staAbsY a16 => Sys2Proof.Machine.execStaAbsY a16 s
  | .staAbsX a16 => Sys2Proof.Machine.execStaAbsX a16 s
  | .stxZp d8 => Sys2Proof.Machine.execStxZp d8 s
  | .stxAbs a16 => Sys2Proof.Machine.execStxAbs a16 s
  | .stxZpY d8 => Sys2Proof.Machine.execStxZpY d8 s
  | .styZp d8 => Sys2Proof.Machine.execStyZp d8 s
  | .styAbs a16 => Sys2Proof.Machine.execStyAbs a16 s
  | .styZpX d8 => Sys2Proof.Machine.execStyZpX d8 s
  -- Flag instructions and compares (45_flags_compare.md)
  | .sec => Sys2Proof.Machine.execSec s
  | .sed => Sys2Proof.Machine.execSed s
  | .sei => Sys2Proof.Machine.execSei s
  | .clc => Sys2Proof.Machine.execClc s
  | .cld => Sys2Proof.Machine.execCld s
  | .cli => Sys2Proof.Machine.execCli s
  | .clv => Sys2Proof.Machine.execClv s
  | .cmpIndX d8 => Sys2Proof.Machine.execCmpIndX d8 s
  | .cmpZp d8 => Sys2Proof.Machine.execCmpZp d8 s
  | .cmpImm d8 => Sys2Proof.Machine.execCmpImm d8 s
  | .cmpAbs a16 => Sys2Proof.Machine.execCmpAbs a16 s
  | .cmpIndY d8 => Sys2Proof.Machine.execCmpIndY d8 s
  | .cmpZpX d8 => Sys2Proof.Machine.execCmpZpX d8 s
  | .cmpAbsY a16 => Sys2Proof.Machine.execCmpAbsY a16 s
  | .cmpAbsX a16 => Sys2Proof.Machine.execCmpAbsX a16 s
  | .cpxImm d8 => Sys2Proof.Machine.execCpxImm d8 s
  | .cpxZp d8 => Sys2Proof.Machine.execCpxZp d8 s
  | .cpxAbs a16 => Sys2Proof.Machine.execCpxAbs a16 s
  | .cpyImm d8 => Sys2Proof.Machine.execCpyImm d8 s
  | .cpyZp d8 => Sys2Proof.Machine.execCpyZp d8 s
  | .cpyAbs a16 => Sys2Proof.Machine.execCpyAbs a16 s
  -- Control transfer and branches (46_control_transfer.md)
  | .jmpAbs a16 => Sys2Proof.Machine.execJmpAbs a16 s
  | .jmpInd a16 => Sys2Proof.Machine.execJmpInd a16 s
  | .jsrAbs a16 => Sys2Proof.Machine.execJsrAbs a16 s
  | .rti => Sys2Proof.Machine.execRti s
  | .rts => Sys2Proof.Machine.execRts s
  | .bcc offset => Sys2Proof.Machine.execBcc offset s
  | .bcs offset => Sys2Proof.Machine.execBcs offset s
  | .beq offset => Sys2Proof.Machine.execBeq offset s
  | .bne offset => Sys2Proof.Machine.execBne offset s
  | .bmi offset => Sys2Proof.Machine.execBmi offset s
  | .bpl offset => Sys2Proof.Machine.execBpl offset s
  | .bvc offset => Sys2Proof.Machine.execBvc offset s
  | .bvs offset => Sys2Proof.Machine.execBvs offset s
  -- Stack and transfers (47_stack_transfer.md)
  | .pha => Sys2Proof.Machine.execPha s
  | .php => Sys2Proof.Machine.execPhp s
  | .pla => Sys2Proof.Machine.execPla s
  | .plp => Sys2Proof.Machine.execPlp s
  | .tax => Sys2Proof.Machine.execTax s
  | .tay => Sys2Proof.Machine.execTay s
  | .tsx => Sys2Proof.Machine.execTsx s
  | .txa => Sys2Proof.Machine.execTxa s
  | .txs => Sys2Proof.Machine.execTxs s
  | .tya => Sys2Proof.Machine.execTya s
  -- System (48_system.md)
  | .brk => Sys2Proof.Machine.execBrk s
  | .bitZp d8 => Sys2Proof.Machine.execBitZp d8 s
  | .bitAbs a16 => Sys2Proof.Machine.execBitAbs a16 s
  | .nop => Sys2Proof.Machine.execNop s
  -- Unofficial (49_unofficial.md)
  | .alrImm d8 => Sys2Proof.Machine.execAlrImm d8 s
  | .ancImm0B d8 => Sys2Proof.Machine.execAncImm0B d8 s
  | .ancImm2B d8 => Sys2Proof.Machine.execAncImm2B d8 s
  | .arrImm d8 => Sys2Proof.Machine.execArrImm d8 s
  | .axsImm d8 => Sys2Proof.Machine.execAxsImm d8 s
  | .laxIndX d8 => Sys2Proof.Machine.execLaxIndX d8 s
  | .laxZp d8 => Sys2Proof.Machine.execLaxZp d8 s
  | .laxAbs a16 => Sys2Proof.Machine.execLaxAbs a16 s
  | .laxIndY d8 => Sys2Proof.Machine.execLaxIndY d8 s
  | .laxZpY d8 => Sys2Proof.Machine.execLaxZpY d8 s
  | .laxAbsY a16 => Sys2Proof.Machine.execLaxAbsY a16 s
  | .saxIndX d8 => Sys2Proof.Machine.execSaxIndX d8 s
  | .saxZp d8 => Sys2Proof.Machine.execSaxZp d8 s
  | .saxAbs a16 => Sys2Proof.Machine.execSaxAbs a16 s
  | .saxZpY d8 => Sys2Proof.Machine.execSaxZpY d8 s
  | .dcpIndX d8 => Sys2Proof.Machine.execDcpIndX d8 s
  | .dcpZp d8 => Sys2Proof.Machine.execDcpZp d8 s
  | .dcpAbs a16 => Sys2Proof.Machine.execDcpAbs a16 s
  | .dcpIndY d8 => Sys2Proof.Machine.execDcpIndY d8 s
  | .dcpZpX d8 => Sys2Proof.Machine.execDcpZpX d8 s
  | .dcpAbsY a16 => Sys2Proof.Machine.execDcpAbsY a16 s
  | .dcpAbsX a16 => Sys2Proof.Machine.execDcpAbsX a16 s
  | .iscIndX d8 => Sys2Proof.Machine.execIscIndX d8 s
  | .iscZp d8 => Sys2Proof.Machine.execIscZp d8 s
  | .iscAbs a16 => Sys2Proof.Machine.execIscAbs a16 s
  | .iscIndY d8 => Sys2Proof.Machine.execIscIndY d8 s
  | .iscZpX d8 => Sys2Proof.Machine.execIscZpX d8 s
  | .iscAbsY a16 => Sys2Proof.Machine.execIscAbsY a16 s
  | .iscAbsX a16 => Sys2Proof.Machine.execIscAbsX a16 s
  | .rlaIndX d8 => Sys2Proof.Machine.execRlaIndX d8 s
  | .rlaZp d8 => Sys2Proof.Machine.execRlaZp d8 s
  | .rlaAbs a16 => Sys2Proof.Machine.execRlaAbs a16 s
  | .rlaIndY d8 => Sys2Proof.Machine.execRlaIndY d8 s
  | .rlaZpX d8 => Sys2Proof.Machine.execRlaZpX d8 s
  | .rlaAbsY a16 => Sys2Proof.Machine.execRlaAbsY a16 s
  | .rlaAbsX a16 => Sys2Proof.Machine.execRlaAbsX a16 s
  | .rraIndX d8 => Sys2Proof.Machine.execRraIndX d8 s
  | .rraZp d8 => Sys2Proof.Machine.execRraZp d8 s
  | .rraAbs a16 => Sys2Proof.Machine.execRraAbs a16 s
  | .rraIndY d8 => Sys2Proof.Machine.execRraIndY d8 s
  | .rraZpX d8 => Sys2Proof.Machine.execRraZpX d8 s
  | .rraAbsY a16 => Sys2Proof.Machine.execRraAbsY a16 s
  | .rraAbsX a16 => Sys2Proof.Machine.execRraAbsX a16 s
  | .sloIndX d8 => Sys2Proof.Machine.execSloIndX d8 s
  | .sloZp d8 => Sys2Proof.Machine.execSloZp d8 s
  | .sloAbs a16 => Sys2Proof.Machine.execSloAbs a16 s
  | .sloIndY d8 => Sys2Proof.Machine.execSloIndY d8 s
  | .sloZpX d8 => Sys2Proof.Machine.execSloZpX d8 s
  | .sloAbsY a16 => Sys2Proof.Machine.execSloAbsY a16 s
  | .sloAbsX a16 => Sys2Proof.Machine.execSloAbsX a16 s
  | .sreIndX d8 => Sys2Proof.Machine.execSreIndX d8 s
  | .sreZp d8 => Sys2Proof.Machine.execSreZp d8 s
  | .sreAbs a16 => Sys2Proof.Machine.execSreAbs a16 s
  | .sreIndY d8 => Sys2Proof.Machine.execSreIndY d8 s
  | .sreZpX d8 => Sys2Proof.Machine.execSreZpX d8 s
  | .sreAbsY a16 => Sys2Proof.Machine.execSreAbsY a16 s
  | .sreAbsX a16 => Sys2Proof.Machine.execSreAbsX a16 s
  | .skbImm80 d8 => Sys2Proof.Machine.execSkbImm80 d8 s
  | .skbImm82 d8 => Sys2Proof.Machine.execSkbImm82 d8 s
  | .skbImm89 d8 => Sys2Proof.Machine.execSkbImm89 d8 s
  | .skbImmC2 d8 => Sys2Proof.Machine.execSkbImmC2 d8 s
  | .skbImmE2 d8 => Sys2Proof.Machine.execSkbImmE2 d8 s
  | .ignZp04 d8 => Sys2Proof.Machine.execIgnZp04 d8 s
  | .ignAbs a16 => Sys2Proof.Machine.execIgnAbs a16 s
  | .ignZpX14 d8 => Sys2Proof.Machine.execIgnZpX14 d8 s
  | .ignAbsX1C a16 => Sys2Proof.Machine.execIgnAbsX1C a16 s
  | .ignZpX34 d8 => Sys2Proof.Machine.execIgnZpX34 d8 s
  | .ignAbsX3C a16 => Sys2Proof.Machine.execIgnAbsX3C a16 s
  | .ignZp44 d8 => Sys2Proof.Machine.execIgnZp44 d8 s
  | .ignZpX54 d8 => Sys2Proof.Machine.execIgnZpX54 d8 s
  | .ignAbsX5C a16 => Sys2Proof.Machine.execIgnAbsX5C a16 s
  | .ignZp64 d8 => Sys2Proof.Machine.execIgnZp64 d8 s
  | .ignZpX74 d8 => Sys2Proof.Machine.execIgnZpX74 d8 s
  | .ignAbsX7C a16 => Sys2Proof.Machine.execIgnAbsX7C a16 s
  | .ignZpXD4 d8 => Sys2Proof.Machine.execIgnZpXD4 d8 s
  | .ignAbsXDC a16 => Sys2Proof.Machine.execIgnAbsXDC a16 s
  | .ignZpXF4 d8 => Sys2Proof.Machine.execIgnZpXF4 d8 s
  | .ignAbsXFC a16 => Sys2Proof.Machine.execIgnAbsXFC a16 s

end Sys2Proof.Machine
end

