-- ==== Sys2Proof/Machine/Cycle.lean ====
section
/-! DEFINITION. The clock state machine and the fetch unit's first half (40_cpu_cycle.md R100 to R111). -/

namespace Sys2Proof.Machine

/-- The byte a read of the instruction stream will deliver, with the state that read would leave; 0x00 where the read
would fault, which the resolver's own read then does (log 6). -/
def peek (a : Word) (s : State) : Byte × State :=
  match memRead a s with
  | .next r => r
  | .fault _ => (0x00, s)
  | .refused _ => (0x00, s)

/-- The two bytes after the opcode byte, as reads in stream order will deliver them. -/
def operandBytesAt (a : Word) (s : State) : List Byte :=
  let r1 := peek a s
  let r2 := peek (a + 1) r1.2
  [r1.1, r2.1]

/-- `ExecuteOneInstruction()` (40_cpu_cycle.md R103): the opcode byte is read at pc; a byte that fails decode raises
DecodeFailure with nothing else changed (R111); else exec runs the instruction. -/
def executeOneInstruction (s : State) : Res State :=
  andThen (memRead s.pc s) fun r =>
  match decode (r.1 :: operandBytesAt (s.pc + 1) r.2) with
  | .ok q => exec q.1 r.2
  | .error _ => .fault (.decodeFailure r.1 s.pc)

/-- `clock()` (40_cpu_cycle.md R101). -/
def clock (s : State) : Res State :=
  if s.cycles = 0 then
    andThen (executeOneInstruction s) fun t => .next { t with cycles := t.cycles - 1 }
  else .next { s with cycles := s.cycles - 1 }

end Sys2Proof.Machine
end

