-- ==== Sys2Proof/Machine/HostCalls.lean ====
section
/-! DEFINITION. The host's calls (40_cpu_cycle.md R100): fetch(), reset(), IRQ, NMI beside clock(), the host's own bus
write (70_reset_and_hazards.md R294), and what a fault leaves behind (60_exceptions.md R264). -/

namespace Sys2Proof.Machine

/-- `fetch()` called by the host (40_cpu_cycle.md R108). The byte it returns is `fetched` of the next state (log 15). -/
def fetchCall (s : State) : Res State :=
  if s.instrLatched then
    match descriptorOf s.opcode with
    | some d => andThen (fetchBy (fun t => memRead t.addressAbsolute t) d.mode s) fun r => .next r.2
    | none => .fault (.invariantViolation .latchedByteUnassigned)
  else .fault (.invariantViolation .fetchWithoutInstruction)

/-- `reset()` (70_reset_and_hazards.md R291): two vector reads, registers and latches to their defaults. -/
def resetCall (s : State) : Res State :=
  andThen (read16 vecReset s) fun r =>
  .next { r.2 with
    pc := r.1
    a := 0x00, x := 0x00, y := 0x00, sp := resetSp, p := resetP
    addressAbsolute := 0x0000, addressRelative := 0x0000, opcode := 0x00, fetched := 0x00
    fetchValid := false, instrLatched := false, cycles := resetCycles }

/-- `InterruptEntry(V)` of IRQ and NMI (60_exceptions.md R266). -/
def interruptEntry (vector : Word) (s : State) : Res State :=
  andThen (enterInterrupt vector s.pc (pushedByInterrupt s.p) s) fun t => .next { t with cycles := intCycles }

/-- `interrupt_request_signal()` (60_exceptions.md R267, R271): masked by P.I, dropped then, not remembered. -/
def irqCall (s : State) : Res State :=
  if s.cycles = 0 then
    (if flag bitI s.p then .next s else interruptEntry vecIrq s)
  else .fault (.invariantViolation .interruptMidInstruction)

/-- `non_maskable_interrupt_request_signal()` (60_exceptions.md R268, R271). -/
def nmiCall (s : State) : Res State :=
  if s.cycles = 0 then interruptEntry vecNmi s
  else .fault (.invariantViolation .interruptMidInstruction)

/-- One host call as one transition (40_cpu_cycle.md R100). The host's own write is no operation of the block, so it is
not among `busOps` (log 8). -/
def hostCall (e : HostEvent) (s : State) : Res State :=
  match e with
  | .clock => clock s
  | .fetch => fetchCall s
  | .reset => resetCall s
  | .irq => irqCall s
  | .nmi => nmiCall s
  | .busWrite a v => .next (store a v s)

/-- The state a transition of an unfaulted block starts from: the last transition's bus operations are forgotten and the
host call about to be made is taken (log 2, log 9). -/
def begun (s : State) : State := { s with busOps := [], inputs := s.inputs.tail }

/-- One transition: the bus operations of the last one are forgotten, the next host call is taken from `inputs`, and
with none there the call is `clock()` (log 2). -/
def transition (s : State) : Res State :=
  match s.inputs with
  | [] => clock { s with busOps := [] }
  | e :: rest => hostCall e { s with busOps := [], inputs := rest }

/-- What a transition that raised a fault leaves (60_exceptions.md R264): the sticky bit is set. For DecodeFailure the one
read of the opcode byte has happened, and nothing else (40_cpu_cycle.md R111, 20_memory.md R61); an InvariantViolation makes
no bus operation (40_cpu_cycle.md R108, 60_exceptions.md R271); the state after a BusFault is not architectural (R262, log 10). -/
def afterFault (f : Fault) (s : State) : State :=
  match f with
  | .decodeFailure _ pc => { (peek pc (begun s)).2 with faulted := true }
  | .busFault _ => { begun s with faulted := true }
  | .invariantViolation _ => { begun s with faulted := true }

/-- The state the host holds after a transition from `s` with outcome `r` (60_exceptions.md R264). -/
def settle (s : State) (r : Res State) : State :=
  match r with
  | .next t => t
  | .fault f => afterFault f s
  | .refused _ => s

/-- The bus under which a program placed at pc can be fetched: the bus itself where it has RAM there, else flat. -/
def busFor (bus : BusMap) (pc : Word) : BusMap :=
  if accessAt bus pc = .ram ∧ accessAt bus (pc + 1) = .ram ∧ accessAt bus (pc + 2) = .ram then bus else .flat

/-- Memory with bytes placed from an address on. -/
def placeBytes (bs : List Byte) (a : Word) (mem : List Host.Cell) : List Host.Cell :=
  match bs with
  | [] => mem
  | b :: rest => placeBytes rest (a + 1) (Memory.write mem a.toNat b)

end Sys2Proof.Machine
end

