-- ==== Sys2Proof/Machine/Step.lean ====
section
/-! DEFINITION. One step: one transition of the block (40_cpu_cycle.md R100), none on a faulted block
(60_exceptions.md R264). -/

namespace Sys2Proof.Machine

/-- One step. -/
def step (s : State) : Host.Outcome State Fault Refusal :=
  if s.faulted then .refused .blockFaulted else transition s

/-- `s` with a table word's instruction where the next step fetches: its three bytes at pc, at an instruction boundary
with no host call outstanding (log 5). It stands for the host's load of a program (70_reset_and_hazards.md R293). -/
def State.withFetchWord (s : State) (nbits w : Nat) : State :=
  { s with
    mem := placeBytes (tableBytes nbits w) s.pc s.mem
    cycles := 0, inputs := [], faulted := false
    params := { s.params with bus := busFor s.params.bus s.pc } }

end Sys2Proof.Machine
end

