-- ==== Sys2Proof/Safety.lean ====
section
/-! DEFINITION. The terms the claims are stated in: a safe run, the invariant of the block between transitions, the bus a
claim is about, and the state an instruction's executor starts from. -/

namespace Sys2Proof.Machine

/-- The step is a transition to a next state: no fault, no refusal. -/
def StepSafe (s : State) : Prop := ∃ t, step s = .next t

/-- A run of `n` steps meets no fault (60_exceptions.md R264: claims about a run take this as a premise). -/
def RunSafe : Nat → State → Prop
  | 0, _ => True
  | n + 1, s => ∃ t, step s = .next t ∧ RunSafe n t

/-- The default BUS: the flat 64 KiB RAM (20_memory.md R53). -/
abbrev FlatBus (s : State) : Prop := s.params.bus = .flat

/-- No read of the bus can fail: it is flat, or an absent read yields the default byte (20_memory.md R54). -/
abbrev TotalBus (s : State) : Prop := s.params.bus = .flat ∨ s.params.absentPolicy ≠ .fault

/-- The instruction's byte does not raise DecodeFailure by UNOFFICIAL_EXEC = fault (49_unofficial.md R235). -/
abbrev Permitted (i : Instr) (s : State) : Prop :=
  i.operation.unofficial = true → s.params.unofficialExec ≠ .fault

/-- What holds of the block between any two transitions: the memory keeps its canonical form; bit 5 of P is 1 and bit 4
is 0 (10_state.md R24); at most seven pulses are owed (40_cpu_cycle.md R101, R106); a latched byte is an assigned one
(R104, R111); a valid operand latch belongs to a latched instruction (10_state.md R38, R39). -/
abbrev State.Inv (s : State) : Prop :=
  Memory.wf s.mem = true ∧ flag bitU s.p = true ∧ flag bitB s.p = false ∧ s.cycles.toNat ≤ 7 ∧
  (s.instrLatched = true → (descriptorOf s.opcode).isSome = true) ∧ (s.fetchValid = true → s.instrLatched = true)

/-- The bytes the flat RAM holds at pc and the two addresses after it. -/
def instructionBytes (s : State) : List Byte :=
  [Memory.read s.mem s.pc.toNat, Memory.read s.mem (s.pc + 1).toNat, Memory.read s.mem (s.pc + 2).toNat]

/-- `address_relative` after the resolver: the sign-extended operand byte in Relative mode, else kept (R130). -/
def relativeLatch (m : Operand) (s : State) : Word :=
  match m with
  | .relative d8 => sext16 d8
  | .implied | .accumulator | .immediate _ | .zeroPage _ | .zeroPageX _ | .zeroPageY _ | .absolute _ | .absoluteX _
  | .absoluteY _ | .indirect _ | .indirectX _ | .indirectY _ => s.addressRelative

/-- The state an executor starts from on the flat bus (40_cpu_cycle.md R103): the opcode latched, pc past the
instruction, the resolver's latches written, its bus reads made, and nothing else changed. -/
def resolvedState (i : Instr) (s : State) : State :=
  { s with
    opcode := i.opcodeByte, fetchValid := false, instrLatched := true
    pc := s.pc + BitVec.ofNat 16 i.length
    addressAbsolute := effectiveAddress i.operand s
    addressRelative := relativeLatch i.operand s
    busOps := s.busOps ++ resolverReads i.operand s }

/-- The same once the operand is fetched (40_cpu_cycle.md R108): one read of the effective address, the byte latched. -/
def fetchedState (i : Instr) (s : State) : State :=
  { resolvedState i s with
    fetched := operandByte i.operand s, fetchValid := true
    busOps := s.busOps ++ resolverReads i.operand s ++ [.read (effectiveAddress i.operand s) (operandByte i.operand s)] }

/-- The total cost of an instruction whose executor contributes `extra` (40_cpu_cycle.md R106), as `cycles` holds it. -/
def totalCost (i : Instr) (s : State) (extra : Nat) : Byte :=
  BitVec.ofNat 8 (i.baseCycles + pagePenalty s.params.unofficialExec i.operation (crosses i.operand s) + extra)

/-- The byte of the flat RAM at an address. -/
def byteAt (s : State) (a : Word) : Byte := Memory.read s.mem a.toNat

/-- The next host call is `clock()` on a block that has not faulted. -/
abbrev ClockDue (s : State) : Prop :=
  s.faulted = false ∧ (s.inputs = [] ∨ s.inputs.head? = some .clock)

/-! The flag rules of the spec as relations between bytes, in the spec's own words and apart from the functions of
Flags.lean. `p` is P before and `q` is P after. -/

/-- Z and N of a result byte (00_scope.md R8). -/
abbrev HasZN (v q : Byte) : Prop := flag bitZ q = decide (v = 0) ∧ flag bitN q = decide (128 ≤ v.toNat)

/-- Every bit of P but those named is unchanged. -/
abbrev OnlyFlags (named : List Nat) (p q : Byte) : Prop := ∀ k, k ∉ named → flag k q = flag k p

/-- ADC's rule (42_alu.md R141): the 9-bit sum, and overflow where both inputs have one sign and the result the other,
which is where the signed sum leaves -128..127 (10_state.md R31). -/
abbrev AdcRule (a m p r q : Byte) : Prop :=
  r.toNat = (a.toNat + m.toNat + (flag bitC p).toNat) % 256 ∧
  flag bitC q = decide (255 < a.toNat + m.toNat + (flag bitC p).toNat) ∧
  flag bitV q = decide (a.getLsbD 7 = m.getLsbD 7 ∧ r.getLsbD 7 ≠ a.getLsbD 7) ∧
  flag bitV q = decide (a.toInt + m.toInt + (flag bitC p).toNat < -128 ∨ 127 < a.toInt + m.toInt + (flag bitC p).toNat) ∧
  HasZN r q ∧ OnlyFlags [bitC, bitZ, bitV, bitN] p q

/-- SBC's rule (42_alu.md R142): A - M - (1 - C), the carry an inverted borrow, overflow where the signed difference
leaves -128..127. -/
abbrev SbcRule (a m p r q : Byte) : Prop :=
  r.toNat = (a.toNat + 256 - m.toNat - (!flag bitC p).toNat) % 256 ∧
  flag bitC q = decide (m.toNat + (!flag bitC p).toNat ≤ a.toNat) ∧
  flag bitV q = decide (a.getLsbD 7 ≠ m.getLsbD 7 ∧ r.getLsbD 7 ≠ a.getLsbD 7) ∧
  flag bitV q = decide (a.toInt - m.toInt - (!flag bitC p).toNat < -128 ∨ 127 < a.toInt - m.toInt - (!flag bitC p).toNat) ∧
  HasZN r q ∧ OnlyFlags [bitC, bitZ, bitV, bitN] p q

/-- The law of the compares (45_flags_compare.md R182). -/
abbrev CompareRule (r m p q : Byte) : Prop :=
  flag bitC q = decide (m.toNat ≤ r.toNat) ∧ flag bitZ q = decide (r = m) ∧
  flag bitN q = decide (128 ≤ (r.toNat + 256 - m.toNat) % 256) ∧ OnlyFlags [bitC, bitZ, bitN] p q

/-- The byte functions of ASL, LSR, ROL, ROR (43_shift_incdec.md R151 to R154): value `v` gives `r`. -/
abbrev ShiftRule (op : Operation) (v p r q : Byte) : Prop :=
  (op = .asl → r.toNat = 2 * v.toNat % 256 ∧ flag bitC q = decide (128 ≤ v.toNat)) ∧
  (op = .lsr → r.toNat = v.toNat / 2 ∧ flag bitC q = decide (v.toNat % 2 = 1)) ∧
  (op = .rol → r.toNat = 2 * v.toNat % 256 + (flag bitC p).toNat ∧ flag bitC q = decide (128 ≤ v.toNat)) ∧
  (op = .ror → r.toNat = v.toNat / 2 + 128 * (flag bitC p).toNat ∧ flag bitC q = decide (v.toNat % 2 = 1)) ∧
  HasZN r q ∧ OnlyFlags [bitC, bitZ, bitN] p q

end Sys2Proof.Machine
end

