-- ==== Sys2Proof/Certificates/Slice0/Obligations.lean ====
section
/-! DEFINITION. The statements for the provers. Each formalises what its docstring cites; where a clause rests on the
model's own choice the docstring names the log entry. -/

open Sys2Proof Sys2Proof.Machine

/-- Decode after encode, for all 229 constructors and every operand (30_encoding.md R80, R82 to R85). -/
def Obligations.DecodeEncode : Prop :=
  ∀ (i : Instr) (rest : List Byte), i.wellFormed = true → decode (encode i ++ rest) = .ok (i, rest)

/-- The other direction of the round trip: every word has one meaning (30_encoding.md R80, R83). -/
def Obligations.EncodeDecode : Prop :=
  ∀ (bs : List Byte) (i : Instr) (rest : List Byte),
    decode bs = .ok (i, rest) → i.wellFormed = true ∧ bs = encode i ++ rest

/-- Decode is total: 229 descriptors and the 27 unassigned bytes (30_encoding.md R83, R86, R88). -/
def Obligations.UnassignedBytes : Prop :=
  (∀ b : Byte, descriptorOf b = none ↔
    b ∈ [0x02, 0x12, 0x1A, 0x22, 0x32, 0x3A, 0x42, 0x52, 0x5A, 0x62, 0x72, 0x7A, 0x8B, 0x92, 0x93, 0x9B, 0x9C, 0x9E,
      0x9F, 0xAB, 0xB2, 0xBB, 0xD2, 0xDA, 0xEB, 0xF2, 0xFA]) ∧
  (∀ (b : Byte) (rest : List Byte), descriptorOf b = none → decode (b :: rest) = .error (.unassigned b)) ∧
  (∀ (b : Byte) (d : Descriptor), descriptorOf b = some d →
    2 ≤ d.baseCycles ∧ d.baseCycles ≤ 8 ∧ (d.operation.unofficial = false → d.baseCycles ≤ 7))

/-- Words of the spec, byte by byte (the examples of 30_encoding.md R84 and 41_addressing_modes.md). -/
def Obligations.SpecWords : Prop :=
  decode [0xA9, 0x05] = .ok (.ldaImm 0x05, []) ∧
  decode [0x85, 0x10] = .ok (.staZp 0x10, []) ∧
  decode [0x69, 0x01] = .ok (.adcImm 0x01, []) ∧
  decode [0x6C, 0xFF, 0x02] = .ok (.jmpInd 0x02FF, []) ∧
  decode [0xA1, 0x20] = .ok (.ldaIndX 0x20, []) ∧
  decode [0xB1, 0x86] = .ok (.ldaIndY 0x86, []) ∧
  decode [0xB6, 0xFF] = .ok (.ldxZpY 0xFF, []) ∧
  decode [0xB9, 0xF0, 0x12] = .ok (.ldaAbsY 0x12F0, []) ∧
  decode [0x20, 0x00, 0x90] = .ok (.jsrAbs 0x9000, []) ∧
  decode [0xD0, 0xFC] = .ok (.bne (-4), []) ∧
  decode [0x4A] = .ok (.lsrAcc, []) ∧
  decode [0x00] = .ok (.brk, []) ∧
  decode [0x0C, 0x34, 0x12] = .ok (.ignAbs 0x1234, [])

/-- The length of an instruction is a function of its opcode byte alone (30_encoding.md R81). -/
def Obligations.LengthByMode : Prop :=
  (∀ i : Instr, (encode i).length = i.length ∧
    (i.mode ∈ [.implied, .accumulator] → i.length = 1) ∧
    (i.mode ∈ [.immediate, .zeroPage, .zeroPageX, .zeroPageY, .relative, .indirectX, .indirectY] → i.length = 2) ∧
    (i.mode ∈ [.absolute, .absoluteX, .absoluteY, .indirect] → i.length = 3)) ∧
  (∀ i j : Instr, i.opcodeByte = j.opcodeByte → i.length = j.length ∧ i.descriptor = j.descriptor)

/-- Fetch, decode, execute, count (40_cpu_cycle.md R101, R103). That `clock()` is the call when `inputs` is empty is the
model's choice (log 2), and so are `busOps` (log 9) and the operands carried in the instruction (log 6). -/
def Obligations.StepRunsInstruction : Prop :=
  (∀ (s : State) (i : Instr) (rest : List Byte),
    FlatBus s → ClockDue s → s.cycles = 0 → decode (instructionBytes s) = .ok (i, rest) →
    step s = andThen (exec i { begun s with busOps := [.read s.pc (byteAt s s.pc)] }) fun t =>
      .next { t with cycles := t.cycles - 1 }) ∧
  (∀ (s : State) (r : Byte × State) (i : Instr) (rest : List Byte),
    ClockDue s → s.cycles = 0 → memRead s.pc (begun s) = .next r →
    decode (r.1 :: operandBytesAt (s.pc + 1) r.2) = .ok (i, rest) →
    step s = andThen (exec i r.2) fun t => .next { t with cycles := t.cycles - 1 })

/-- Mid-instruction state only decrements `cycles` (40_cpu_cycle.md R101, R102). -/
def Obligations.CountdownToBoundary : Prop :=
  (∀ s : State, ClockDue s → s.cycles ≠ 0 → step s = .next { begun s with cycles := s.cycles - 1 }) ∧
  (∀ (n : Nat) (s : State), s.faulted = false → s.inputs = [] → s.cycles.toNat = n → 0 < n →
    (Host.Core.run Sys2Proof.core n s : Host.Outcome State Fault Refusal) = .next { s with cycles := 0, busOps := [] })

/-- DecodeFailure, on every bus (60_exceptions.md R261, 40_cpu_cycle.md R111), and the sticky bit it leaves (60_exceptions.md R264).
The last clause rests on choices of the model: `busOps` records the read (log 9), a device read counts (log 7), the host
call is taken from `inputs` (log 2). -/
def Obligations.DecodeFailureExactly : Prop :=
  ∀ (s : State) (b : Byte) (p : Word), s.faulted = false →
    (step s = .fault (.decodeFailure b p) ↔
      ClockDue s ∧ s.cycles = 0 ∧ p = s.pc ∧ (∃ t, memRead s.pc (begun s) = .next (b, t)) ∧
      (descriptorOf b = none ∨
        s.params.unofficialExec = .fault ∧ ∃ d, descriptorOf b = some d ∧ d.operation.unofficial = true)) ∧
    (step s = .fault (.decodeFailure b p) →
      settle s (step s) = { s with
        faulted := true, inputs := s.inputs.tail, busOps := [.read p b]
        deviceReads := s.deviceReads + if accessAt s.params.bus p = .device then 1 else 0 })

/-- A faulted block has no transition, and nothing else is refused (60_exceptions.md R264). -/
def Obligations.FaultedBlock : Prop :=
  (∀ (s : State) (r : Refusal), step s = .refused r ↔ s.faulted = true ∧ r = .blockFaulted) ∧
  (∀ (s : State) (f : Fault), step s = .fault f →
    (settle s (step s)).faulted = true ∧ step (settle s (step s)) = .refused .blockFaulted)

/-- BusFault (60_exceptions.md R262). The shape of a richer bus is the model's (log 8). -/
def Obligations.BusFaultOnlyWhereAbsent : Prop :=
  ∀ (s : State) (a : Word), step s = .fault (.busFault a) →
    accessAt s.params.bus a = .absent ∧ s.params.absentPolicy = .fault ∧ ¬ FlatBus s

/-- The invariant of the block between transitions (10_state.md R24, R37 to R39). Canonical memory is the model's own form
of the bus contents. -/
def Obligations.InvKept : Prop :=
  ∀ s t : State, State.Inv s → step s = .next t → State.Inv t

/-- The invariant at both starts (10_state.md R44, R45). -/
def Obligations.InvAtStart : Prop :=
  State.Inv State.powerOn ∧ State.Inv State.reset

/-- The binding to the bus is fixed at creation and survives reset (10_state.md R41); a step
that answers neither sets nor clears `faulted` (10_state.md R40). `params` in State is log 1. -/
def Obligations.BindingKept : Prop :=
  ∀ s t : State, step s = .next t → t.params = s.params ∧ t.faulted = s.faulted ∧ t.faulted = false

/-- The table of 10_state.md R44, R45. The vector bytes of `State.reset` read as the model's choice for unwritten memory
(log 3). -/
def Obligations.StartStates : Prop :=
  (State.powerOn.a = 0x00 ∧ State.powerOn.x = 0x00 ∧ State.powerOn.y = 0x00 ∧ State.powerOn.sp = 0xFD ∧
    State.powerOn.p = 0x24 ∧ State.powerOn.pc = 0x0000 ∧ State.powerOn.addressAbsolute = 0x0000 ∧
    State.powerOn.addressRelative = 0x0000 ∧ State.powerOn.opcode = 0x00 ∧ State.powerOn.fetched = 0x00 ∧
    State.powerOn.cycles = 0 ∧ State.powerOn.fetchValid = false ∧ State.powerOn.instrLatched = false ∧
    State.powerOn.faulted = false ∧ State.powerOn.busOps = [] ∧ FlatBus State.powerOn ∧
    State.powerOn.params.unofficialExec = .nop ∧ State.powerOn.params.absentPolicy = .fault) ∧
  (step { State.powerOn with inputs := [.reset] } = .next State.reset ∧
    State.reset.a = 0x00 ∧ State.reset.x = 0x00 ∧ State.reset.y = 0x00 ∧ State.reset.sp = 0xFD ∧ State.reset.p = 0x24 ∧
    State.reset.addressAbsolute = 0x0000 ∧ State.reset.addressRelative = 0x0000 ∧ State.reset.opcode = 0x00 ∧
    State.reset.fetched = 0x00 ∧ State.reset.cycles = 7 ∧ State.reset.fetchValid = false ∧
    State.reset.instrLatched = false ∧ State.reset.faulted = false)

/-- `reset()` (70_reset_and_hazards.md R291). -/
def Obligations.ResetEvent : Prop :=
  ∀ (s : State) (rest : List HostEvent), FlatBus s → s.faulted = false → s.inputs = .reset :: rest →
    step s = .next { s with
      pc := byteAt s 0xFFFD ++ byteAt s 0xFFFC
      a := 0x00, x := 0x00, y := 0x00, sp := 0xFD, p := 0x24
      addressAbsolute := 0x0000, addressRelative := 0x0000, opcode := 0x00, fetched := 0x00
      fetchValid := false, instrLatched := false, cycles := 7
      inputs := rest
      busOps := [.read 0xFFFC (byteAt s 0xFFFC), .read 0xFFFD (byteAt s 0xFFFD)] }

/-- `interrupt_request_signal()` (60_exceptions.md R267 with the entry of R266 and the precondition of R271). -/
def Obligations.IrqRequest : Prop :=
  ∀ (s : State) (rest : List HostEvent), FlatBus s → Memory.wf s.mem = true → s.faulted = false → s.inputs = .irq :: rest →
    (s.cycles ≠ 0 → step s = .fault (.invariantViolation .interruptMidInstruction)) ∧
    (s.cycles = 0 → flag bitI s.p = true → step s = .next { s with inputs := rest, busOps := [] }) ∧
    (s.cycles = 0 → flag bitI s.p = false →
      ∃ t, step s = .next t ∧
        t = { s with
          pc := byteAt s (0xFFFE + 1) ++ byteAt s 0xFFFE
          sp := s.sp - 3
          p := t.p, mem := t.mem, cycles := 7, inputs := rest
          busOps := [.write (stackAddress s.sp) (hiByte s.pc), .write (stackAddress (s.sp - 1)) (loByte s.pc),
            .write (stackAddress (s.sp - 2)) ((s.p &&& 0xEF) ||| 0x20),
            .read 0xFFFE (byteAt s 0xFFFE), .read (0xFFFE + 1) (byteAt s (0xFFFE + 1))] } ∧
        flag bitI t.p = true ∧ OnlyFlags [bitI] s.p t.p ∧
        byteAt t (stackAddress s.sp) = hiByte s.pc ∧ byteAt t (stackAddress (s.sp - 1)) = loByte s.pc ∧
        byteAt t (stackAddress (s.sp - 2)) = (s.p &&& 0xEF) ||| 0x20 ∧
        ∀ a, a ≠ stackAddress s.sp → a ≠ stackAddress (s.sp - 1) → a ≠ stackAddress (s.sp - 2) →
          byteAt t a = byteAt s a)

/-- `non_maskable_interrupt_request_signal()` (60_exceptions.md R268 with the entry of R266). -/
def Obligations.NmiRequest : Prop :=
  ∀ (s : State) (rest : List HostEvent), FlatBus s → Memory.wf s.mem = true → s.faulted = false → s.inputs = .nmi :: rest →
    (s.cycles ≠ 0 → step s = .fault (.invariantViolation .interruptMidInstruction)) ∧
    (s.cycles = 0 →
      ∃ t, step s = .next t ∧
        t = { s with
          pc := byteAt s (0xFFFA + 1) ++ byteAt s 0xFFFA
          sp := s.sp - 3
          p := t.p, mem := t.mem, cycles := 7, inputs := rest
          busOps := [.write (stackAddress s.sp) (hiByte s.pc), .write (stackAddress (s.sp - 1)) (loByte s.pc),
            .write (stackAddress (s.sp - 2)) ((s.p &&& 0xEF) ||| 0x20),
            .read 0xFFFA (byteAt s 0xFFFA), .read (0xFFFA + 1) (byteAt s (0xFFFA + 1))] } ∧
        flag bitI t.p = true ∧ OnlyFlags [bitI] s.p t.p ∧
        byteAt t (stackAddress s.sp) = hiByte s.pc ∧ byteAt t (stackAddress (s.sp - 1)) = loByte s.pc ∧
        byteAt t (stackAddress (s.sp - 2)) = (s.p &&& 0xEF) ||| 0x20 ∧
        ∀ a, a ≠ stackAddress s.sp → a ≠ stackAddress (s.sp - 1) → a ≠ stackAddress (s.sp - 2) →
          byteAt t a = byteAt s a)

/-- InvariantViolation, on every bus (60_exceptions.md R263). -/
def Obligations.HostErrors : Prop :=
  ∀ (s : State) (v : Violation), State.Inv s → s.faulted = false →
    (step s = .fault (.invariantViolation v) ↔
      v = .fetchWithoutInstruction ∧ s.inputs.head? = some .fetch ∧ s.instrLatched = false ∨
      v = .interruptMidInstruction ∧ (s.inputs.head? = some .irq ∨ s.inputs.head? = some .nmi) ∧ s.cycles ≠ 0)

/-- `fetch()` called by the host (40_cpu_cycle.md R108). That its result is read off `fetched` is log 15. -/
def Obligations.FetchCall : Prop :=
  ∀ (s : State) (rest : List HostEvent) (d : Descriptor),
    FlatBus s → s.faulted = false → s.inputs = .fetch :: rest → s.instrLatched = true → descriptorOf s.opcode = some d →
    (d.mode ∈ [.implied, .accumulator, .relative] ∨ s.fetchValid = true →
      step s = .next { s with inputs := rest, busOps := [] }) ∧
    (d.mode ∉ [.implied, .accumulator, .relative] → s.fetchValid = false →
      step s = .next { s with
        inputs := rest, fetched := byteAt s s.addressAbsolute, fetchValid := true
        busOps := [.read s.addressAbsolute (byteAt s s.addressAbsolute)] })

/-- Idempotence of `fetch()`, on every bus (40_cpu_cycle.md R109). -/
def Obligations.FetchIdempotent : Prop :=
  ∀ (s t u : State) (rest : List HostEvent),
    s.inputs = .fetch :: .fetch :: rest → step s = .next t → step t = .next u →
    t.busOps.length ≤ 1 ∧ u = { t with inputs := rest, busOps := [] } ∧
    s.mem = t.mem ∧ s.pc = t.pc ∧ s.p = t.p ∧ s.cycles = t.cycles

/-- The return from an interrupt (60_exceptions.md R272): it restores P.I and continues at exactly the pushed pc. -/
def Obligations.ReturnUndoesEntry : Prop :=
  ∀ s t : State, FlatBus s → Memory.wf s.mem = true → flag bitU s.p = true → flag bitB s.p = false →
    (∀ vector, interruptEntry vector s = .next t →
      ∃ u, exec .rti t = .next u ∧ u.pc = s.pc ∧ u.p = s.p ∧ u.sp = s.sp ∧ u.a = s.a ∧ u.x = s.x ∧ u.y = s.y) ∧
    (exec .brk s = .next t →
      ∃ u, exec .rti t = .next u ∧ u.pc = s.pc + 2 ∧ u.p = s.p ∧ u.sp = s.sp ∧ u.a = s.a ∧ u.x = s.x ∧ u.y = s.y)

/-- The canonical form of the bus contents (the model's own; 20_memory.md R53 fixes only what a read answers).
What an unlisted address reads as, and so which cells the form leaves out, is the model's choice (log 3). -/
def Obligations.CanonicalMemory : Prop :=
  (∀ m n : List Host.Cell, Memory.wf m = true → Memory.wf n = true →
    (∀ a, Memory.read m a = Memory.read n a) → m = n) ∧
  (∀ (m : List Host.Cell) (a : Nat) (v : Byte), Memory.wf m = true → a < 65536 →
    Memory.wf (Memory.write m a v) = true ∧
    ∀ b, Memory.read (Memory.write m a v) b = if b = a then v else Memory.read m b) ∧
  (∀ (m : List Host.Cell) (a b : Nat) (u v : Byte), Memory.wf m = true → a < 65536 → b < 65536 → a ≠ b →
    Memory.write (Memory.write m a u) b v = Memory.write (Memory.write m b v) a u) ∧
  (∀ (m : List Host.Cell) (a : Nat) (u v : Byte), Memory.wf m = true → a < 65536 →
    Memory.write (Memory.write m a u) a v = Memory.write m a v)

/-- The two-operation contract of the bus (20_memory.md R50, R53, R54). What a richer bus is made of is the model's choice
(log 8), and so are the list `busOps` (log 9) and the count of device reads (log 7). -/
def Obligations.BusAccess : Prop :=
  (∀ (s : State) (a : Word), accessAt s.params.bus a = .absent → s.params.absentPolicy = .fault →
    memRead a s = .fault (.busFault a)) ∧
  (∀ (s : State) (a : Word) (b : Byte), accessAt s.params.bus a = .absent → s.params.absentPolicy = .defaultByte b →
    memRead a s = .next (b, { s with busOps := s.busOps ++ [.read a b] })) ∧
  (∀ (s : State) (a : Word) (v : Byte), accessAt s.params.bus a = .absent →
    memWrite a v s = { s with busOps := s.busOps ++ [.write a v] }) ∧
  (∀ (s : State) (a : Word), accessAt s.params.bus a = .ram →
    memRead a s = .next (byteAt s a, { s with busOps := s.busOps ++ [.read a (byteAt s a)] })) ∧
  (∀ (s : State) (a : Word) (v : Byte), accessAt s.params.bus a = .ram →
    memWrite a v s = { s with mem := (memWrite a v s).mem, busOps := s.busOps ++ [.write a v] } ∧
    (Memory.wf s.mem = true →
      byteAt (memWrite a v s) a = v ∧ ∀ b, b ≠ a → byteAt (memWrite a v s) b = byteAt s b)) ∧
  (∀ (s : State) (a : Word), accessAt s.params.bus a = .device →
    ∃ v, memRead a s = .next (v, { s with busOps := s.busOps ++ [.read a v], deviceReads := s.deviceReads + 1 })) ∧
  (∀ (s : State) (a : Word) (v : Byte), accessAt s.params.bus a = .device →
    memWrite a v s = { s with busOps := s.busOps ++ [.write a v] }) ∧
  (∀ (s : State) (a : Word), FlatBus s → accessAt s.params.bus a = .ram ∧
    memRead a s = .next (byteAt s a, { s with busOps := s.busOps ++ [.read a (byteAt s a)] }))

/-- A host write is seen by every later read (20_memory.md R69, 70_reset_and_hazards.md R298). -/
def Obligations.WriteSeen : Prop :=
  ∀ (s : State) (rest : List HostEvent) (a : Word) (v : Byte),
    FlatBus s → Memory.wf s.mem = true → s.faulted = false → s.inputs = .busWrite a v :: rest →
    ∃ t, step s = .next t ∧ t = { s with inputs := rest, busOps := [], mem := t.mem } ∧
      byteAt t a = v ∧ ∀ b, b ≠ a → byteAt t b = byteAt s b

/-- The stack of the four stack operations (47_stack_transfer.md R210); PHP then PLP (47_stack_transfer.md R214, 10_state.md R24). -/
def Obligations.StackRoundTrips : Prop :=
  (∀ (s : State) (v : Byte), FlatBus s → Memory.wf s.mem = true →
    (stackAddress s.sp).toNat = 0x0100 + s.sp.toNat ∧
    push8 v s = { s with
      sp := s.sp - 1, mem := (push8 v s).mem, busOps := s.busOps ++ [.write (stackAddress s.sp) v] } ∧
    byteAt (push8 v s) (stackAddress s.sp) = v ∧
    (∀ a, a ≠ stackAddress s.sp → byteAt (push8 v s) a = byteAt s a) ∧
    pull8 s = .next (byteAt s (stackAddress (s.sp + 1)), { s with
      sp := s.sp + 1
      busOps := s.busOps ++ [.read (stackAddress (s.sp + 1)) (byteAt s (stackAddress (s.sp + 1)))] }) ∧
    ∃ t, pull8 (push8 v s) = .next (v, t) ∧ t.sp = s.sp) ∧
  (∀ s t : State, FlatBus s → Memory.wf s.mem = true → exec .php s = .next t →
    ∃ u, exec .plp t = .next u ∧ u.sp = s.sp ∧ (u.p = s.p ↔ flag bitU s.p = true ∧ flag bitB s.p = false))

/-- The modes without a memory address, and Immediate (41_addressing_modes.md R121, R122, R123, R130; what the executors then do
with the operand is said by the statements about the instructions). -/
def Obligations.ModesWithoutAddress : Prop :=
  ∀ (b : Byte) (s : State), FlatBus s →
    resolve .implied (latchOpcode b s) = .next (false, latchOpcode b s) ∧
    resolve .accumulator (latchOpcode b s) = .next (false, latchOpcode b s) ∧
    (∀ d8, resolve (.immediate d8) (latchOpcode b s) =
      .next (false, { latchOpcode b s with addressAbsolute := s.pc + 1, pc := s.pc + 2 })) ∧
    (∀ d8, ∃ t, resolve (.relative d8) (latchOpcode b s) = .next (false, t) ∧
      t = { latchOpcode b s with
        addressRelative := t.addressRelative, pc := s.pc + 2, busOps := s.busOps ++ [.read (s.pc + 1) d8] } ∧
      t.addressRelative.toInt = d8.toInt)

/-- The zero-page modes (41_addressing_modes.md R124 to R126). -/
def Obligations.ZeroPageModes : Prop :=
  ∀ (b : Byte) (s : State), FlatBus s →
    ∀ (d8 : Byte) (m : Operand) (index : Byte),
      m = .zeroPage d8 ∧ index = 0 ∨ m = .zeroPageX d8 ∧ index = s.x ∨ m = .zeroPageY d8 ∧ index = s.y →
      ∃ t, resolve m (latchOpcode b s) = .next (false, t) ∧
        t = { latchOpcode b s with
          addressAbsolute := effectiveAddress m s, pc := s.pc + 2, busOps := s.busOps ++ [.read (s.pc + 1) d8] } ∧
        (effectiveAddress m s).toNat = (d8.toNat + index.toNat) % 256

/-- The absolute modes (41_addressing_modes.md R127 to R129). -/
def Obligations.AbsoluteModes : Prop :=
  ∀ (b : Byte) (s : State), FlatBus s →
    ∀ (a16 : Word) (m : Operand) (index : Byte),
      m = .absolute a16 ∧ index = 0 ∨ m = .absoluteX a16 ∧ index = s.x ∨ m = .absoluteY a16 ∧ index = s.y →
      ∃ t, resolve m (latchOpcode b s) = .next (decide (256 ≤ a16.toNat % 256 + index.toNat), t) ∧
        t = { latchOpcode b s with
          addressAbsolute := effectiveAddress m s, pc := s.pc + 3
          busOps := s.busOps ++ [.read (s.pc + 1) (loByte a16), .read (s.pc + 2) (hiByte a16)] } ∧
        (effectiveAddress m s).toNat = (a16.toNat + index.toNat) % 65536 ∧
        decide (256 ≤ a16.toNat % 256 + index.toNat) =
          decide ((effectiveAddress m s).toNat / 256 ≠ a16.toNat / 256)

/-- The indirect modes (41_addressing_modes.md R131 to R133). -/
def Obligations.IndirectModes : Prop :=
  ∀ (b : Byte) (s : State), FlatBus s →
    (∀ a16 : Word, ∃ (second : Word) (t : State), resolve (.indirect a16) (latchOpcode b s) = .next (false, t) ∧
      second.toNat = a16.toNat / 256 * 256 + (a16.toNat + 1) % 256 ∧
      t = { latchOpcode b s with
        addressAbsolute := effectiveAddress (.indirect a16) s, pc := s.pc + 3
        busOps := s.busOps ++ [.read (s.pc + 1) (loByte a16), .read (s.pc + 2) (hiByte a16),
          .read a16 (byteAt s a16), .read second (byteAt s second)] } ∧
      effectiveAddress (.indirect a16) s = byteAt s second ++ byteAt s a16) ∧
    (∀ d8 : Byte, ∃ (first second : Word) (t : State), resolve (.indirectX d8) (latchOpcode b s) = .next (false, t) ∧
      first.toNat = (d8.toNat + s.x.toNat) % 256 ∧ second.toNat = (d8.toNat + s.x.toNat + 1) % 256 ∧
      t = { latchOpcode b s with
        addressAbsolute := effectiveAddress (.indirectX d8) s, pc := s.pc + 2
        busOps := s.busOps ++ [.read (s.pc + 1) d8, .read first (byteAt s first), .read second (byteAt s second)] } ∧
      effectiveAddress (.indirectX d8) s = byteAt s second ++ byteAt s first) ∧
    (∀ d8 : Byte, ∃ (first second : Word) (t : State),
      resolve (.indirectY d8) (latchOpcode b s) =
        .next (decide (256 ≤ (byteAt s first).toNat + s.y.toNat), t) ∧
      first.toNat = d8.toNat ∧ second.toNat = (d8.toNat + 1) % 256 ∧
      t = { latchOpcode b s with
        addressAbsolute := effectiveAddress (.indirectY d8) s, pc := s.pc + 2
        busOps := s.busOps ++ [.read (s.pc + 1) d8, .read first (byteAt s first), .read second (byteAt s second)] } ∧
      (effectiveAddress (.indirectY d8) s).toNat = ((byteAt s second ++ byteAt s first).toNat + s.y.toNat) % 65536)

/-- The cost of an instruction (40_cpu_cycle.md R106, R107) and the page crossing (41_addressing_modes.md R134). -/
def Obligations.Cost : Prop :=
  (∀ (i : Instr) (s t : State), FlatBus s → exec i s = .next t →
    ∃ extra : Nat,
      t.cycles.toNat = i.baseCycles + (if crosses i.operand s = true ∧
        (i.operation ∈ [.lda, .ldx, .ldy, .adc, .sbc, .and, .eor, .ora, .cmp] ∨
          s.params.unofficialExec = .full ∧ i.operation ∈ [.lax, .ign]) then 1 else 0) + extra ∧
      extra ≤ 2 ∧ (i.operation ∉ [.bcc, .bcs, .beq, .bne, .bmi, .bpl, .bvc, .bvs] → extra = 0) ∧
      2 ≤ t.cycles.toNat ∧ t.cycles.toNat ≤ 8 ∧ (i.operation.unofficial = false → t.cycles.toNat ≤ 7)) ∧
  (∀ (m : Operand) (s : State), crosses m s = true ↔
    (∃ w : Word, m = .absoluteX w ∧ 256 ≤ w.toNat % 256 + s.x.toNat) ∨
    (∃ w : Word, m = .absoluteY w ∧ 256 ≤ w.toNat % 256 + s.y.toNat) ∨
    (∃ d : Byte, m = .indirectY d ∧ 256 ≤ (byteAt s (zext16 d)).toNat + s.y.toNat))

/-- Who writes what, on every bus: registers and flags by 10_state.md R20 to R32, memory by 20_memory.md R61, R65 and
41_addressing_modes.md R135 with the rules of the stores, read-modify-writes and pushes, the unofficial operations by
49_unofficial.md R235 to R249. -/
def Obligations.RegisterWriters : Prop :=
  ∀ (i : Instr) (s t : State), exec i s = .next t →
    (t.a ≠ s.a → i.operation ∈ [.adc, .sbc, .and, .eor, .ora, .lda, .pla, .txa, .tya, .asl, .lsr, .rol, .ror,
      .alr, .anc, .arr, .lax, .isc, .rla, .rra, .slo, .sre]) ∧
    (t.a ≠ s.a → i.operation ∈ [.asl, .lsr, .rol, .ror] → i.mode = .accumulator) ∧
    (t.x ≠ s.x → i.operation ∈ [.ldx, .inx, .dex, .tax, .tsx, .axs, .lax]) ∧
    (t.y ≠ s.y → i.operation ∈ [.ldy, .iny, .dey, .tay]) ∧
    (t.sp ≠ s.sp → i.operation ∈ [.pha, .php, .pla, .plp, .jsr, .rts, .rti, .brk, .txs]) ∧
    (t.mem ≠ s.mem → i.operation ∈ [.sta, .stx, .sty, .asl, .lsr, .rol, .ror, .inc, .dec, .pha, .php, .jsr, .brk,
      .sax, .dcp, .isc, .rla, .rra, .slo, .sre]) ∧
    (flag bitC t.p ≠ flag bitC s.p → i.operation ∈ [.adc, .sbc, .asl, .lsr, .rol, .ror, .cmp, .cpx, .cpy, .sec, .clc,
      .plp, .rti, .alr, .anc, .arr, .axs, .dcp, .isc, .rla, .rra, .slo, .sre]) ∧
    (flag bitI t.p ≠ flag bitI s.p → i.operation ∈ [.sei, .cli, .brk, .plp, .rti]) ∧
    (flag bitD t.p ≠ flag bitD s.p → i.operation ∈ [.sed, .cld, .plp, .rti]) ∧
    (flag bitV t.p ≠ flag bitV s.p → i.operation ∈ [.adc, .sbc, .bit, .clv, .plp, .rti, .arr, .isc, .rra]) ∧
    (flag bitB t.p ≠ flag bitB s.p ∨ flag bitU t.p ≠ flag bitU s.p → i.operation ∈ [.plp, .rti]) ∧
    (i.operation ∈ [.sta, .stx, .sty, .txs, .jmp, .jsr, .rts, .brk, .nop, .pha, .php, .sax, .skb, .ign,
        .bcc, .bcs, .beq, .bne, .bmi, .bpl, .bvc, .bvs, .sec, .sed, .sei, .clc, .cld, .cli, .clv] →
      flag bitZ t.p = flag bitZ s.p ∧ flag bitN t.p = flag bitN s.p)

/-- An instruction either fully completes or the block faults (40_cpu_cycle.md R110); where the bus cannot fail and the
byte is permitted it completes. The richer bus is the model's (log 8). -/
def Obligations.CompletesOnEveryBus : Prop :=
  ∀ (i : Instr) (s : State), TotalBus s → Permitted i s →
    ∃ t, exec i s = .next t ∧ t.opcode = i.opcodeByte ∧ t.instrLatched = true ∧ 2 ≤ t.cycles.toNat ∧
      t.params = s.params ∧ t.inputs = s.inputs ∧ t.faulted = s.faulted ∧ ∃ ops, t.busOps = s.busOps ++ ops

/-- ADC, every form (42_alu.md R141). -/
def Obligations.AdcResult : Prop :=
  ∀ (i : Instr) (s : State), FlatBus s → i.operation = .adc →
      (i.opcodeByte, i.mode, i.baseCycles) ∈
        [(0x61, .indirectX, 6), (0x65, .zeroPage, 3), (0x69, .immediate, 2), (0x6D, .absolute, 4),
         (0x71, .indirectY, 5), (0x75, .zeroPageX, 4), (0x79, .absoluteY, 4), (0x7D, .absoluteX, 4)] ∧
      ∃ t, exec i s = .next t ∧
        t = { fetchedState i s with a := t.a, p := t.p, cycles := BitVec.ofNat 8 (i.baseCycles + if crosses i.operand s then 1 else 0) } ∧
        AdcRule s.a (operandByte i.operand s) s.p t.a t.p ∧ (∀ a, byteAt t a = byteAt s a)

/-- SBC, every form (42_alu.md R142). -/
def Obligations.SbcResult : Prop :=
  ∀ (i : Instr) (s : State), FlatBus s → i.operation = .sbc →
      (i.opcodeByte, i.mode, i.baseCycles) ∈
        [(0xE1, .indirectX, 6), (0xE5, .zeroPage, 3), (0xE9, .immediate, 2), (0xED, .absolute, 4),
         (0xF1, .indirectY, 5), (0xF5, .zeroPageX, 4), (0xF9, .absoluteY, 4), (0xFD, .absoluteX, 4)] ∧
      ∃ t, exec i s = .next t ∧
        t = { fetchedState i s with a := t.a, p := t.p, cycles := BitVec.ofNat 8 (i.baseCycles + if crosses i.operand s then 1 else 0) } ∧
        SbcRule s.a (operandByte i.operand s) s.p t.a t.p ∧ (∀ a, byteAt t a = byteAt s a)

/-- AND, EOR, ORA, every form (42_alu.md R143 to R145). -/
def Obligations.LogicResult : Prop :=
  ∀ (i : Instr) (s : State) (r : Byte), FlatBus s →
      (i.operation = .and ∧ r = s.a &&& operandByte i.operand s ∨
        i.operation = .eor ∧ r = s.a ^^^ operandByte i.operand s ∨
        i.operation = .ora ∧ r = s.a ||| operandByte i.operand s) →
      (i.opcodeByte, i.mode, i.baseCycles) ∈
        [(0x01, .indirectX, 6), (0x05, .zeroPage, 3), (0x09, .immediate, 2), (0x0D, .absolute, 4),
         (0x11, .indirectY, 5), (0x15, .zeroPageX, 4), (0x19, .absoluteY, 4), (0x1D, .absoluteX, 4),
         (0x21, .indirectX, 6), (0x25, .zeroPage, 3), (0x29, .immediate, 2), (0x2D, .absolute, 4),
         (0x31, .indirectY, 5), (0x35, .zeroPageX, 4), (0x39, .absoluteY, 4), (0x3D, .absoluteX, 4),
         (0x41, .indirectX, 6), (0x45, .zeroPage, 3), (0x49, .immediate, 2), (0x4D, .absolute, 4),
         (0x51, .indirectY, 5), (0x55, .zeroPageX, 4), (0x59, .absoluteY, 4), (0x5D, .absoluteX, 4)] ∧
      ∃ t, exec i s = .next t ∧
        t = { fetchedState i s with a := r, p := t.p, cycles := BitVec.ofNat 8 (i.baseCycles + if crosses i.operand s then 1 else 0) } ∧
        HasZN r t.p ∧ OnlyFlags [bitZ, bitN] s.p t.p ∧ (∀ a, byteAt t a = byteAt s a)

/-- The shifts in Accumulator mode (43_shift_incdec.md R150 to R154). -/
def Obligations.ShiftAccumulator : Prop :=
  ∀ (i : Instr) (s : State), FlatBus s → i.operation ∈ [.asl, .lsr, .rol, .ror] → i.mode = .accumulator →
      ∃ t, exec i s = .next t ∧
        t = { s with
          a := t.a, p := t.p, pc := s.pc + 1, opcode := i.opcodeByte, fetchValid := false, instrLatched := true
          cycles := 2 } ∧
        ShiftRule i.operation s.a s.p t.a t.p ∧ (∀ a, byteAt t a = byteAt s a)

/-- The shifts on memory (43_shift_incdec.md R150 to R154). -/
def Obligations.ShiftMemory : Prop :=
  ∀ (i : Instr) (s : State), FlatBus s → Memory.wf s.mem = true → i.operation ∈ [.asl, .lsr, .rol, .ror] →
      (i.opcodeByte, i.mode, i.baseCycles) ∈
        [(0x06, .zeroPage, 5), (0x0A, .accumulator, 2), (0x0E, .absolute, 6), (0x16, .zeroPageX, 6),
         (0x1E, .absoluteX, 7), (0x26, .zeroPage, 5), (0x2A, .accumulator, 2), (0x2E, .absolute, 6),
         (0x36, .zeroPageX, 6), (0x3E, .absoluteX, 7), (0x46, .zeroPage, 5), (0x4A, .accumulator, 2),
         (0x4E, .absolute, 6), (0x56, .zeroPageX, 6), (0x5E, .absoluteX, 7), (0x66, .zeroPage, 5),
         (0x6A, .accumulator, 2), (0x6E, .absolute, 6), (0x76, .zeroPageX, 6), (0x7E, .absoluteX, 7)] ∧
      (i.mode = .accumulator → ∃ t, exec i s = .next t ∧ ShiftRule i.operation s.a s.p t.a t.p) ∧
      (i.mode ≠ .accumulator → ∃ t, exec i s = .next t ∧
        t = { fetchedState i s with
          mem := t.mem, p := t.p, cycles := BitVec.ofNat 8 i.baseCycles
          busOps := (fetchedState i s).busOps ++ [.write (effectiveAddress i.operand s) (byteAt t (effectiveAddress i.operand s))] } ∧
        (∀ a, a ≠ effectiveAddress i.operand s → byteAt t a = byteAt s a) ∧
        ShiftRule i.operation (operandByte i.operand s) s.p (byteAt t (effectiveAddress i.operand s)) t.p)

/-- INC and DEC (43_shift_incdec.md R155, R156, by the template R150). -/
def Obligations.IncDecMemory : Prop :=
  ∀ (i : Instr) (s : State) (r : Nat), FlatBus s → Memory.wf s.mem = true →
      (i.operation = .inc ∧ r = ((operandByte i.operand s).toNat + 1) % 256 ∨
        i.operation = .dec ∧ r = ((operandByte i.operand s).toNat + 255) % 256) →
      (i.opcodeByte, i.mode, i.baseCycles) ∈
        [(0xC6, .zeroPage, 5), (0xCE, .absolute, 6), (0xD6, .zeroPageX, 6), (0xDE, .absoluteX, 7),
         (0xE6, .zeroPage, 5), (0xEE, .absolute, 6), (0xF6, .zeroPageX, 6), (0xFE, .absoluteX, 7)] ∧
      ∃ t, exec i s = .next t ∧
        t = { fetchedState i s with
          mem := t.mem, p := t.p, cycles := BitVec.ofNat 8 i.baseCycles
          busOps := (fetchedState i s).busOps ++ [.write (effectiveAddress i.operand s) (byteAt t (effectiveAddress i.operand s))] } ∧
        (∀ a, a ≠ effectiveAddress i.operand s → byteAt t a = byteAt s a) ∧
        (byteAt t (effectiveAddress i.operand s)).toNat = r ∧ HasZN (byteAt t (effectiveAddress i.operand s)) t.p ∧ OnlyFlags [bitZ, bitN] s.p t.p

/-- INX, INY, DEX, DEY (43_shift_incdec.md R157 to R160). -/
def Obligations.IndexStep : Prop :=
  ∀ (i : Instr) (s : State), FlatBus s → i.operation ∈ [.inx, .iny, .dex, .dey] →
      (i.opcodeByte, i.mode, i.baseCycles) ∈
        [(0x88, .implied, 2), (0xC8, .implied, 2), (0xCA, .implied, 2), (0xE8, .implied, 2)] ∧
      ∃ t, exec i s = .next t ∧
        t = { s with
          x := t.x, y := t.y, p := t.p, pc := s.pc + 1, opcode := i.opcodeByte, fetchValid := false, instrLatched := true
          cycles := BitVec.ofNat 8 i.baseCycles } ∧
        (i.operation = .inx → t.x.toNat = (s.x.toNat + 1) % 256 ∧ t.y = s.y ∧ HasZN t.x t.p) ∧
        (i.operation = .iny → t.y.toNat = (s.y.toNat + 1) % 256 ∧ t.x = s.x ∧ HasZN t.y t.p) ∧
        (i.operation = .dex → t.x.toNat = (s.x.toNat + 255) % 256 ∧ t.y = s.y ∧ HasZN t.x t.p) ∧
        (i.operation = .dey → t.y.toNat = (s.y.toNat + 255) % 256 ∧ t.x = s.x ∧ HasZN t.y t.p) ∧
        OnlyFlags [bitZ, bitN] s.p t.p ∧ (∀ a, byteAt t a = byteAt s a)

/-- LDA, LDX, LDY, every form (44_load_store.md R165 to R167). -/
def Obligations.LoadResult : Prop :=
  ∀ (i : Instr) (s : State), FlatBus s → i.operation ∈ [.lda, .ldx, .ldy] →
      (i.opcodeByte, i.mode, i.baseCycles) ∈
        [(0xA0, .immediate, 2), (0xA1, .indirectX, 6), (0xA2, .immediate, 2), (0xA4, .zeroPage, 3),
         (0xA5, .zeroPage, 3), (0xA6, .zeroPage, 3), (0xA9, .immediate, 2), (0xAC, .absolute, 4),
         (0xAD, .absolute, 4), (0xAE, .absolute, 4), (0xB1, .indirectY, 5), (0xB4, .zeroPageX, 4),
         (0xB5, .zeroPageX, 4), (0xB6, .zeroPageY, 4), (0xB9, .absoluteY, 4), (0xBC, .absoluteX, 4),
         (0xBD, .absoluteX, 4), (0xBE, .absoluteY, 4)] ∧
      ∃ t, exec i s = .next t ∧
        t = { fetchedState i s with
          a := if i.operation = .lda then operandByte i.operand s else s.a
          x := if i.operation = .ldx then operandByte i.operand s else s.x
          y := if i.operation = .ldy then operandByte i.operand s else s.y
          p := t.p, cycles := BitVec.ofNat 8 (i.baseCycles + if crosses i.operand s then 1 else 0) } ∧
        HasZN (operandByte i.operand s) t.p ∧ OnlyFlags [bitZ, bitN] s.p t.p ∧ (∀ a, byteAt t a = byteAt s a)

/-- STA, STX, STY, every form (44_load_store.md R168 to R170). -/
def Obligations.StoreResult : Prop :=
  ∀ (i : Instr) (s : State) (v : Byte), FlatBus s → Memory.wf s.mem = true →
      (i.operation = .sta ∧ v = s.a ∨ i.operation = .stx ∧ v = s.x ∨ i.operation = .sty ∧ v = s.y) →
      (i.opcodeByte, i.mode, i.baseCycles) ∈
        [(0x81, .indirectX, 6), (0x84, .zeroPage, 3), (0x85, .zeroPage, 3), (0x86, .zeroPage, 3),
         (0x8C, .absolute, 4), (0x8D, .absolute, 4), (0x8E, .absolute, 4), (0x91, .indirectY, 6),
         (0x94, .zeroPageX, 4), (0x95, .zeroPageX, 4), (0x96, .zeroPageY, 4), (0x99, .absoluteY, 5),
         (0x9D, .absoluteX, 5)] ∧
      ∃ t, exec i s = .next t ∧
        t = { resolvedState i s with
          mem := t.mem, cycles := BitVec.ofNat 8 i.baseCycles
          busOps := (resolvedState i s).busOps ++ [.write (effectiveAddress i.operand s) v] } ∧
        byteAt t (effectiveAddress i.operand s) = v ∧ ∀ a, a ≠ effectiveAddress i.operand s → byteAt t a = byteAt s a

/-- The flag instructions (45_flags_compare.md R175 to R181). -/
def Obligations.FlagInstructions : Prop :=
  ∀ (i : Instr) (s : State) (k : Nat) (v : Bool), FlatBus s →
      (i.operation, k, v) ∈ [(.sec, 0, true), (.sed, 3, true), (.sei, 2, true),
        (.clc, 0, false), (.cld, 3, false), (.cli, 2, false), (.clv, 6, false)] →
      (i.opcodeByte, i.mode, i.baseCycles) ∈
        [(0x18, .implied, 2), (0x38, .implied, 2), (0x58, .implied, 2), (0x78, .implied, 2), (0xB8, .implied, 2),
         (0xD8, .implied, 2), (0xF8, .implied, 2)] ∧
      ∃ t, exec i s = .next t ∧
        t = { s with
          p := t.p, pc := s.pc + 1, opcode := i.opcodeByte, fetchValid := false, instrLatched := true
          cycles := BitVec.ofNat 8 i.baseCycles } ∧
        flag k t.p = v ∧ OnlyFlags [k] s.p t.p ∧ (∀ a, byteAt t a = byteAt s a)

/-- CMP, CPX, CPY, every form (45_flags_compare.md R182 to R185). -/
def Obligations.CompareResult : Prop :=
  ∀ (i : Instr) (s : State) (r : Byte), FlatBus s →
      (i.operation = .cmp ∧ r = s.a ∨ i.operation = .cpx ∧ r = s.x ∨ i.operation = .cpy ∧ r = s.y) →
      (i.opcodeByte, i.mode, i.baseCycles) ∈
        [(0xC0, .immediate, 2), (0xC1, .indirectX, 6), (0xC4, .zeroPage, 3), (0xC5, .zeroPage, 3),
         (0xC9, .immediate, 2), (0xCC, .absolute, 4), (0xCD, .absolute, 4), (0xD1, .indirectY, 5),
         (0xD5, .zeroPageX, 4), (0xD9, .absoluteY, 4), (0xDD, .absoluteX, 4), (0xE0, .immediate, 2),
         (0xE4, .zeroPage, 3), (0xEC, .absolute, 4)] ∧
      ∃ t, exec i s = .next t ∧
        t = { fetchedState i s with p := t.p, cycles := BitVec.ofNat 8 (i.baseCycles + if crosses i.operand s then 1 else 0) } ∧
        CompareRule r (operandByte i.operand s) s.p t.p ∧ (∀ a, byteAt t a = byteAt s a)

/-- JMP (46_control_transfer.md R190). -/
def Obligations.JmpResult : Prop :=
  ∀ (s : State) (a16 : Word), FlatBus s →
      (∃ t, exec (.jmpAbs a16) s = .next t ∧
        t = { s with
          pc := a16, addressAbsolute := a16, opcode := 0x4C, fetchValid := false, instrLatched := true, cycles := 3
          busOps := s.busOps ++ [.read (s.pc + 1) (loByte a16), .read (s.pc + 2) (hiByte a16)] } ∧ (∀ a, byteAt t a = byteAt s a)) ∧
      (∃ (second target : Word) (t : State), exec (.jmpInd a16) s = .next t ∧
        second.toNat = a16.toNat / 256 * 256 + (a16.toNat + 1) % 256 ∧
        target = byteAt s second ++ byteAt s a16 ∧
        t = { s with
          pc := target, addressAbsolute := target, opcode := 0x6C, fetchValid := false, instrLatched := true, cycles := 5
          busOps := s.busOps ++ [.read (s.pc + 1) (loByte a16), .read (s.pc + 2) (hiByte a16),
            .read a16 (byteAt s a16), .read second (byteAt s second)] } ∧ (∀ a, byteAt t a = byteAt s a))

/-- JSR (46_control_transfer.md R191). -/
def Obligations.JsrResult : Prop :=
  ∀ (s : State) (a16 : Word), FlatBus s → Memory.wf s.mem = true →
      ∃ t, exec (.jsrAbs a16) s = .next t ∧
        t = { s with
          pc := a16, addressAbsolute := a16, sp := s.sp - 2, mem := t.mem
          opcode := 0x20, fetchValid := false, instrLatched := true, cycles := 6
          busOps := s.busOps ++ [.read (s.pc + 1) (loByte a16), .read (s.pc + 2) (hiByte a16),
            .write (stackAddress s.sp) (hiByte (s.pc + 2)), .write (stackAddress (s.sp - 1)) (loByte (s.pc + 2))] } ∧
        byteAt t (stackAddress s.sp) = hiByte (s.pc + 2) ∧ byteAt t (stackAddress (s.sp - 1)) = loByte (s.pc + 2) ∧
        ∀ a, a ≠ stackAddress s.sp → a ≠ stackAddress (s.sp - 1) → byteAt t a = byteAt s a

/-- RTS (46_control_transfer.md R193). -/
def Obligations.RtsResult : Prop :=
  (∀ s : State, FlatBus s →
    ∃ t, exec .rts s = .next t ∧
      t = { s with
        pc := (byteAt s (stackAddress (s.sp + 2)) ++ byteAt s (stackAddress (s.sp + 1))) + 1
        sp := s.sp + 2, opcode := 0x60, fetchValid := false, instrLatched := true, cycles := 6
        busOps := s.busOps ++ [.read (stackAddress (s.sp + 1)) (byteAt s (stackAddress (s.sp + 1))),
          .read (stackAddress (s.sp + 2)) (byteAt s (stackAddress (s.sp + 2)))] } ∧ (∀ a, byteAt t a = byteAt s a)) ∧
  (∀ (s t : State) (a16 : Word), FlatBus s → Memory.wf s.mem = true → exec (.jsrAbs a16) s = .next t →
    ∃ u, exec .rts t = .next u ∧ u.pc = s.pc + 3 ∧ u.sp = s.sp)

/-- RTI (46_control_transfer.md R192). -/
def Obligations.RtiResult : Prop :=
  ∀ s : State, FlatBus s →
      ∃ t, exec .rti s = .next t ∧
        t = { s with
          p := t.p
          pc := byteAt s (stackAddress (s.sp + 3)) ++ byteAt s (stackAddress (s.sp + 2))
          sp := s.sp + 3, opcode := 0x40, fetchValid := false, instrLatched := true, cycles := 6
          busOps := s.busOps ++ [.read (stackAddress (s.sp + 1)) (byteAt s (stackAddress (s.sp + 1))),
            .read (stackAddress (s.sp + 2)) (byteAt s (stackAddress (s.sp + 2))),
            .read (stackAddress (s.sp + 3)) (byteAt s (stackAddress (s.sp + 3)))] } ∧
        (∀ k, k ∉ [4, 5] → flag k t.p = flag k (byteAt s (stackAddress (s.sp + 1)))) ∧
        flag 4 t.p = false ∧ flag 5 t.p = true ∧ (∀ a, byteAt t a = byteAt s a)

/-- The branches (46_control_transfer.md R194 to R202). -/
def Obligations.BranchResult : Prop :=
  ∀ (i : Instr) (s : State) (offset : Int) (k : Nat) (v : Bool), FlatBus s → i.wellFormed = true →
      (i, k, v) ∈ [(.bcc offset, 0, false), (.bcs offset, 0, true), (.beq offset, 1, true), (.bne offset, 1, false),
        (.bmi offset, 7, true), (.bpl offset, 7, false), (.bvc offset, 6, false), (.bvs offset, 6, true)] →
      (i.opcodeByte, i.mode, i.baseCycles) ∈
        [(0x10, .relative, 2), (0x30, .relative, 2), (0x50, .relative, 2), (0x70, .relative, 2),
         (0x90, .relative, 2), (0xB0, .relative, 2), (0xD0, .relative, 2), (0xF0, .relative, 2)] ∧
      ∃ t, exec i s = .next t ∧
        t = { s with
          pc := t.pc, addressRelative := BitVec.ofInt 16 offset, cycles := t.cycles
          opcode := i.opcodeByte, fetchValid := false, instrLatched := true
          busOps := s.busOps ++ [.read (s.pc + 1) (BitVec.ofInt 8 offset)] } ∧
        (flag k s.p ≠ v → t.pc = s.pc + 2 ∧ t.cycles = 2) ∧
        (flag k s.p = v → (t.pc.toNat : Int) = ((s.pc + 2).toNat + offset) % 65536 ∧
          t.cycles = if t.pc.toNat / 256 = (s.pc + 2).toNat / 256 then 3 else 4) ∧ (∀ a, byteAt t a = byteAt s a)

/-- PHA and PHP (47_stack_transfer.md R211, R212). -/
def Obligations.PushResult : Prop :=
  ∀ s : State, FlatBus s → Memory.wf s.mem = true →
      (∃ t, exec .pha s = .next t ∧
        t = { s with
          pc := s.pc + 1, sp := s.sp - 1, mem := t.mem, opcode := 0x48, fetchValid := false, instrLatched := true
          cycles := 3, busOps := s.busOps ++ [.write (stackAddress s.sp) (s.a)] } ∧
        byteAt t (stackAddress s.sp) = s.a ∧ ∀ a, a ≠ stackAddress s.sp → byteAt t a = byteAt s a) ∧
      (∃ t, exec .php s = .next t ∧
        t = { s with
          pc := s.pc + 1, sp := s.sp - 1, mem := t.mem, opcode := 0x08, fetchValid := false, instrLatched := true
          cycles := 3, busOps := s.busOps ++ [.write (stackAddress s.sp) (s.p ||| 0x30)] } ∧
        byteAt t (stackAddress s.sp) = s.p ||| 0x30 ∧ ∀ a, a ≠ stackAddress s.sp → byteAt t a = byteAt s a)

/-- PLA and PLP (47_stack_transfer.md R213, R214). -/
def Obligations.PullResult : Prop :=
  ∀ s : State, FlatBus s →
      (∃ t, exec .pla s = .next t ∧
        t = { s with
          a := byteAt s (stackAddress (s.sp + 1)), p := t.p, pc := s.pc + 1, sp := s.sp + 1, opcode := 0x68, fetchValid := false
          instrLatched := true, cycles := 4
          busOps := s.busOps ++ [.read (stackAddress (s.sp + 1)) (byteAt s (stackAddress (s.sp + 1)))] } ∧
        HasZN (byteAt s (stackAddress (s.sp + 1))) t.p ∧ OnlyFlags [bitZ, bitN] s.p t.p ∧ (∀ a, byteAt t a = byteAt s a)) ∧
      (∃ t, exec .plp s = .next t ∧
        t = { s with
          p := t.p, pc := s.pc + 1, sp := s.sp + 1, opcode := 0x28, fetchValid := false
          instrLatched := true, cycles := 4
          busOps := s.busOps ++ [.read (stackAddress (s.sp + 1)) (byteAt s (stackAddress (s.sp + 1)))] } ∧
        (∀ k, k ∉ [4, 5] → flag k t.p = flag k (byteAt s (stackAddress (s.sp + 1)))) ∧
        flag 4 t.p = false ∧ flag 5 t.p = true ∧ (∀ a, byteAt t a = byteAt s a))

/-- The register transfers (47_stack_transfer.md R215 to R220). -/
def Obligations.TransferResult : Prop :=
  ∀ (i : Instr) (s : State) (v : Byte), FlatBus s →
      (i.operation, v) ∈ [(.tax, s.a), (.tay, s.a), (.tsx, s.sp), (.txa, s.x), (.txs, s.x), (.tya, s.y)] →
      (i.opcodeByte, i.mode, i.baseCycles) ∈
        [(0x8A, .implied, 2), (0x98, .implied, 2), (0x9A, .implied, 2), (0xA8, .implied, 2), (0xAA, .implied, 2),
         (0xBA, .implied, 2)] ∧
      ∃ t, exec i s = .next t ∧
        t = { s with
          a := if i.operation = .txa ∨ i.operation = .tya then v else s.a
          x := if i.operation = .tax ∨ i.operation = .tsx then v else s.x
          y := if i.operation = .tay then v else s.y
          sp := if i.operation = .txs then v else s.sp
          p := t.p, pc := s.pc + 1, opcode := i.opcodeByte, fetchValid := false, instrLatched := true
          cycles := BitVec.ofNat 8 i.baseCycles } ∧
        (i.operation = .txs → t.p = s.p) ∧
        (i.operation ≠ .txs → HasZN v t.p ∧ OnlyFlags [bitZ, bitN] s.p t.p) ∧ (∀ a, byteAt t a = byteAt s a)

/-- BRK (48_system.md R225). -/
def Obligations.BrkResult : Prop :=
  ∀ s : State, FlatBus s → Memory.wf s.mem = true →
      ∃ t, exec .brk s = .next t ∧
        t = { s with
          pc := byteAt s 0xFFFF ++ byteAt s 0xFFFE, sp := s.sp - 3, p := t.p, mem := t.mem
          opcode := 0x00, fetchValid := false, instrLatched := true, cycles := 7
          busOps := s.busOps ++ [.write (stackAddress s.sp) (hiByte (s.pc + 2)),
            .write (stackAddress (s.sp - 1)) (loByte (s.pc + 2)), .write (stackAddress (s.sp - 2)) (s.p ||| 0x30),
            .read 0xFFFE (byteAt s 0xFFFE), .read 0xFFFF (byteAt s 0xFFFF)] } ∧
        flag bitI t.p = true ∧ OnlyFlags [bitI] s.p t.p ∧
        byteAt t (stackAddress s.sp) = hiByte (s.pc + 2) ∧ byteAt t (stackAddress (s.sp - 1)) = loByte (s.pc + 2) ∧
        byteAt t (stackAddress (s.sp - 2)) = s.p ||| 0x30 ∧
        ∀ a, a ≠ stackAddress s.sp → a ≠ stackAddress (s.sp - 1) → a ≠ stackAddress (s.sp - 2) →
          byteAt t a = byteAt s a

/-- BIT (48_system.md R226). -/
def Obligations.BitResult : Prop :=
  ∀ (i : Instr) (s : State), FlatBus s → i.operation = .bit →
      (i.opcodeByte, i.mode, i.baseCycles) ∈
        [(0x24, .zeroPage, 3), (0x2C, .absolute, 4)] ∧
      ∃ t, exec i s = .next t ∧
        t = { fetchedState i s with p := t.p, cycles := BitVec.ofNat 8 i.baseCycles } ∧
        flag bitZ t.p = decide (s.a &&& operandByte i.operand s = 0) ∧
        flag bitN t.p = decide (128 ≤ (operandByte i.operand s).toNat) ∧
        flag bitV t.p = decide (64 ≤ (operandByte i.operand s).toNat % 128) ∧
        OnlyFlags [bitZ, bitN, bitV] s.p t.p ∧ (∀ a, byteAt t a = byteAt s a)

/-- NOP (48_system.md R227) and the policy `nop` (49_unofficial.md R235). -/
def Obligations.NopResult : Prop :=
  ∀ (i : Instr) (s : State), FlatBus s →
      (i.operation = .nop → exec i s = .next { s with
        pc := s.pc + 1, opcode := 0xEA, fetchValid := false, instrLatched := true, cycles := 2 }) ∧
      (i.operation.unofficial = true → s.params.unofficialExec = .nop →
        exec i s = .next { resolvedState i s with cycles := BitVec.ofNat 8 i.baseCycles })

/-- The unofficial immediate operations under `full` (49_unofficial.md R236 to R239). -/
def Obligations.UnofficialImmediate : Prop :=
  ∀ (i : Instr) (s : State) (m : Byte), FlatBus s → s.params.unofficialExec = .full → m = operandByte i.operand s →
      i.operation ∈ [.alr, .anc, .arr, .axs] →
      (i.opcodeByte, i.mode, i.baseCycles) ∈
        [(0x0B, .immediate, 2), (0x2B, .immediate, 2), (0x4B, .immediate, 2), (0x6B, .immediate, 2),
         (0xCB, .immediate, 2)] ∧
      ∃ t, exec i s = .next t ∧
        t = { fetchedState i s with a := t.a, x := t.x, p := t.p, cycles := 2 } ∧
        (i.operation = .alr → ShiftRule .lsr (s.a &&& m) s.p t.a t.p ∧ t.x = s.x) ∧
        (i.operation = .anc → t.a = s.a &&& m ∧ t.x = s.x ∧ HasZN t.a t.p ∧
          flag bitC t.p = decide (128 ≤ t.a.toNat) ∧ OnlyFlags [bitC, bitZ, bitN] s.p t.p) ∧
        (i.operation = .arr → t.a.toNat = (s.a &&& m).toNat / 2 + 128 * (flag bitC s.p).toNat ∧ t.x = s.x ∧
          HasZN t.a t.p ∧ flag bitC t.p = t.a.getLsbD 6 ∧ flag bitV t.p = (t.a.getLsbD 6 ^^ t.a.getLsbD 5) ∧
          OnlyFlags [bitC, bitZ, bitV, bitN] s.p t.p) ∧
        (i.operation = .axs → t.x.toNat = ((s.a &&& s.x).toNat + 256 - m.toNat) % 256 ∧ t.a = s.a ∧
          CompareRule (s.a &&& s.x) m s.p t.p) ∧ (∀ a, byteAt t a = byteAt s a)

/-- LAX, SKB, IGN under `full` (49_unofficial.md R240, R248, R249). -/
def Obligations.UnofficialReads : Prop :=
  ∀ (i : Instr) (s : State), FlatBus s → s.params.unofficialExec = .full →
      i.operation ∈ [.lax, .skb, .ign] →
      (i.opcodeByte, i.mode, i.baseCycles) ∈
        [(0x04, .zeroPage, 3), (0x0C, .absolute, 4), (0x14, .zeroPageX, 4), (0x1C, .absoluteX, 4),
         (0x34, .zeroPageX, 4), (0x3C, .absoluteX, 4), (0x44, .zeroPage, 3), (0x54, .zeroPageX, 4),
         (0x5C, .absoluteX, 4), (0x64, .zeroPage, 3), (0x74, .zeroPageX, 4), (0x7C, .absoluteX, 4),
         (0x80, .immediate, 2), (0x82, .immediate, 2), (0x89, .immediate, 2), (0xA3, .indirectX, 6),
         (0xA7, .zeroPage, 3), (0xAF, .absolute, 4), (0xB3, .indirectY, 5), (0xB7, .zeroPageY, 4),
         (0xBF, .absoluteY, 4), (0xC2, .immediate, 2), (0xD4, .zeroPageX, 4), (0xDC, .absoluteX, 4),
         (0xE2, .immediate, 2), (0xF4, .zeroPageX, 4), (0xFC, .absoluteX, 4)] ∧
      ∃ t, exec i s = .next t ∧
        t = { fetchedState i s with
          a := if i.operation = .lax then operandByte i.operand s else s.a
          x := if i.operation = .lax then operandByte i.operand s else s.x
          p := t.p, cycles := BitVec.ofNat 8 (i.baseCycles + if crosses i.operand s then 1 else 0) } ∧
        (i.operation = .lax → HasZN (operandByte i.operand s) t.p ∧ OnlyFlags [bitZ, bitN] s.p t.p) ∧
        (i.operation ≠ .lax → t.p = s.p) ∧ (∀ a, byteAt t a = byteAt s a)

/-- SAX under `full` (49_unofficial.md R241). -/
def Obligations.SaxResult : Prop :=
  ∀ (i : Instr) (s : State), FlatBus s → Memory.wf s.mem = true → s.params.unofficialExec = .full →
      i.operation = .sax →
      (i.opcodeByte, i.mode, i.baseCycles) ∈
        [(0x83, .indirectX, 6), (0x87, .zeroPage, 3), (0x8F, .absolute, 4), (0x97, .zeroPageY, 4)] ∧
      ∃ t, exec i s = .next t ∧
        t = { resolvedState i s with
          mem := t.mem, cycles := BitVec.ofNat 8 i.baseCycles
          busOps := (resolvedState i s).busOps ++ [.write (effectiveAddress i.operand s) (s.a &&& s.x)] } ∧
        byteAt t (effectiveAddress i.operand s) = s.a &&& s.x ∧ ∀ a, a ≠ effectiveAddress i.operand s → byteAt t a = byteAt s a

/-- The unofficial read-modify-writes under `full` (49_unofficial.md R242 to R247). -/
def Obligations.UnofficialModify : Prop :=
  ∀ (i : Instr) (s : State) (m : Byte), FlatBus s → Memory.wf s.mem = true → s.params.unofficialExec = .full →
      m = operandByte i.operand s → i.operation ∈ [.dcp, .isc, .rla, .rra, .slo, .sre] →
      (i.opcodeByte, i.mode, i.baseCycles) ∈
        [(0x03, .indirectX, 8), (0x07, .zeroPage, 5), (0x0F, .absolute, 6), (0x13, .indirectY, 8),
         (0x17, .zeroPageX, 6), (0x1B, .absoluteY, 7), (0x1F, .absoluteX, 7), (0x23, .indirectX, 8),
         (0x27, .zeroPage, 5), (0x2F, .absolute, 6), (0x33, .indirectY, 8), (0x37, .zeroPageX, 6),
         (0x3B, .absoluteY, 7), (0x3F, .absoluteX, 7), (0x43, .indirectX, 8), (0x47, .zeroPage, 5),
         (0x4F, .absolute, 6), (0x53, .indirectY, 8), (0x57, .zeroPageX, 6), (0x5B, .absoluteY, 7),
         (0x5F, .absoluteX, 7), (0x63, .indirectX, 8), (0x67, .zeroPage, 5), (0x6F, .absolute, 6),
         (0x73, .indirectY, 8), (0x77, .zeroPageX, 6), (0x7B, .absoluteY, 7), (0x7F, .absoluteX, 7),
         (0xC3, .indirectX, 8), (0xC7, .zeroPage, 5), (0xCF, .absolute, 6), (0xD3, .indirectY, 8),
         (0xD7, .zeroPageX, 6), (0xDB, .absoluteY, 7), (0xDF, .absoluteX, 7), (0xE3, .indirectX, 8),
         (0xE7, .zeroPage, 5), (0xEF, .absolute, 6), (0xF3, .indirectY, 8), (0xF7, .zeroPageX, 6),
         (0xFB, .absoluteY, 7), (0xFF, .absoluteX, 7)] ∧
      ∃ (t : State) (r : Byte), exec i s = .next t ∧ r = byteAt t (effectiveAddress i.operand s) ∧
        t = { fetchedState i s with
          mem := t.mem, a := t.a, p := t.p, cycles := BitVec.ofNat 8 i.baseCycles
          busOps := (fetchedState i s).busOps ++ [.write (effectiveAddress i.operand s) (byteAt t (effectiveAddress i.operand s))] } ∧
        (∀ a, a ≠ effectiveAddress i.operand s → byteAt t a = byteAt s a) ∧
        (i.operation = .dcp → r.toNat = (m.toNat + 255) % 256 ∧ t.a = s.a ∧ CompareRule s.a r s.p t.p) ∧
        (i.operation = .isc → r.toNat = (m.toNat + 1) % 256 ∧ SbcRule s.a r s.p t.a t.p) ∧
        (i.operation = .rla → ∃ q, ShiftRule .rol m s.p r q ∧ t.a = s.a &&& r ∧ HasZN t.a t.p ∧
          OnlyFlags [bitZ, bitN] q t.p) ∧
        (i.operation = .rra → ∃ q, ShiftRule .ror m s.p r q ∧ AdcRule s.a r q t.a t.p) ∧
        (i.operation = .slo → ∃ q, ShiftRule .asl m s.p r q ∧ t.a = s.a ||| r ∧ HasZN t.a t.p ∧
          OnlyFlags [bitZ, bitN] q t.p) ∧
        (i.operation = .sre → ∃ q, ShiftRule .lsr m s.p r q ∧ t.a = s.a ^^^ r ∧ HasZN t.a t.p ∧
          OnlyFlags [bitZ, bitN] q t.p)

/-- The policy `fault` (49_unofficial.md R235, 60_exceptions.md R261). -/
def Obligations.UnofficialFault : Prop :=
  (∀ (i : Instr) (s : State), i.operation.unofficial = true → s.params.unofficialExec = .fault →
    exec i s = .fault (.decodeFailure i.opcodeByte s.pc)) ∧
  (∀ (i : Instr) (s : State) (b : Byte) (p : Word), exec i s = .fault (.decodeFailure b p) →
    i.operation.unofficial = true ∧ s.params.unofficialExec = .fault ∧ b = i.opcodeByte ∧ p = s.pc)
end

