-- ==== Sys2Proof/Laws/Memory.lean ====
section
/-! SUPPORT. Laws of the bus contents: a read after a write, and the canonical form, which every write keeps. -/

namespace Sys2Proof.Machine

@[simp] theorem Memory.read_nil (a : Nat) : Memory.read [] a = unwrittenByte := rfl

@[simp] theorem Memory.wf_nil : Memory.wf [] = true := rfl

/-- A cell in front of the canonical form above a bound, as a proposition. -/
theorem Memory.wfFrom_cons {low k : Nat} {v : Byte} {rest : List Host.Cell} :
    Memory.wfFrom low ((k, v) :: rest) = true ↔
      low ≤ k ∧ k < 65536 ∧ v ≠ unwrittenByte ∧ Memory.wfFrom (k + 1) rest = true := by
  simp [Memory.wfFrom, and_assoc]

/-- The form above a bound holds above every lower one. -/
theorem Memory.wfFrom_mono {low low' : Nat} (h : low' ≤ low) {mem : List Host.Cell}
    (hm : Memory.wfFrom low mem = true) : Memory.wfFrom low' mem = true := by
  match mem with
  | [] => rfl
  | (k, v) :: rest =>
    obtain ⟨h1, h2, h3, h4⟩ := Memory.wfFrom_cons.mp hm
    exact Memory.wfFrom_cons.mpr ⟨by omega, h2, h3, h4⟩

/-- Below the first listed address everything is unlisted. -/
theorem Memory.read_below {low a : Nat} {mem : List Host.Cell} (h : Memory.wfFrom low mem = true) (ha : a < low) :
    Memory.read mem a = unwrittenByte := by
  induction mem generalizing low with
  | nil => rfl
  | cons c rest ih =>
    obtain ⟨k, v⟩ := c
    obtain ⟨h1, h2, h3, h4⟩ := Memory.wfFrom_cons.mp h
    have hk : a ≠ k := by omega
    simp only [Memory.read, if_neg hk]
    exact ih h4 (by omega)

theorem Memory.put_wfFrom {low a : Nat} {v : Byte} {rest : List Host.Cell} (hlow : low ≤ a) (ha : a < 65536)
    (h : Memory.wfFrom (a + 1) rest = true) : Memory.wfFrom low (Memory.put a v rest) = true := by
  unfold Memory.put
  split
  · exact Memory.wfFrom_mono (by omega) h
  · exact Memory.wfFrom_cons.mpr ⟨hlow, ha, ‹_›, h⟩

theorem Memory.read_put {low a b : Nat} {v : Byte} {rest : List Host.Cell} (h : Memory.wfFrom low rest = true)
    (ha : a < low) : Memory.read (Memory.put a v rest) b = if b = a then v else Memory.read rest b := by
  unfold Memory.put
  split
  · rename_i hv
    split
    · rename_i hb
      rw [hb, hv, Memory.read_below h ha]
    · rfl
  · simp [Memory.read]

theorem Memory.write_wfFrom {low a : Nat} {v : Byte} {mem : List Host.Cell} (hlow : low ≤ a) (ha : a < 65536)
    (h : Memory.wfFrom low mem = true) : Memory.wfFrom low (Memory.write mem a v) = true := by
  induction mem generalizing low with
  | nil => exact Memory.put_wfFrom hlow ha rfl
  | cons c rest ih =>
    obtain ⟨k, u⟩ := c
    obtain ⟨h1, h2, h3, h4⟩ := Memory.wfFrom_cons.mp h
    simp only [Memory.write]
    split
    · exact Memory.put_wfFrom hlow ha (Memory.wfFrom_cons.mpr ⟨by omega, h2, h3, h4⟩)
    · split
      · rename_i _ he
        subst he
        exact Memory.put_wfFrom hlow ha h4
      · exact Memory.wfFrom_cons.mpr ⟨h1, h2, h3, ih (by omega) h4⟩

/-- A write at an address of the 16-bit space keeps the canonical form. -/
theorem Memory.write_wf {mem : List Host.Cell} {a : Nat} {v : Byte} (ha : a < 65536) (h : Memory.wf mem = true) :
    Memory.wf (Memory.write mem a v) = true := Memory.write_wfFrom (Nat.zero_le a) ha h

theorem Memory.read_write_from {low a b : Nat} {v : Byte} {mem : List Host.Cell} (h : Memory.wfFrom low mem = true) :
    Memory.read (Memory.write mem a v) b = if b = a then v else Memory.read mem b := by
  induction mem generalizing low with
  | nil => exact Memory.read_put (low := a + 1) rfl (by omega)
  | cons c rest ih =>
    obtain ⟨k, u⟩ := c
    obtain ⟨h1, h2, h3, h4⟩ := Memory.wfFrom_cons.mp h
    simp only [Memory.write]
    split
    · rename_i hk
      exact Memory.read_put (low := k) (Memory.wfFrom_cons.mpr ⟨le_rfl, h2, h3, h4⟩) hk
    · split
      · rename_i _ he
        subst he
        rw [Memory.read_put h4 (Nat.lt_succ_self a)]
        simp only [Memory.read]
        split <;> rfl
      · rename_i hlt hne
        simp only [Memory.read, ih h4]
        split
        · rename_i hb
          rw [if_neg (by omega)]
        · rfl

/-- A read after a write, in canonical memory: the written byte at its address, every other byte as before. -/
theorem Memory.read_write {mem : List Host.Cell} {a b : Nat} {v : Byte} (h : Memory.wf mem = true) :
    Memory.read (Memory.write mem a v) b = if b = a then v else Memory.read mem b := Memory.read_write_from h

end Sys2Proof.Machine
end

