-- ==== Sys2Proof/Laws/State.lean ====
section
/-! SUPPORT. One lemma per field per named update of State: later proofs read a field of an updated state without
unfolding the update. -/

namespace Sys2Proof.Machine

/-! `logOp` adds to the bus operations and changes nothing else. -/

@[simp] theorem logOp_a (op : BusOp) (s : State) : (logOp op s).a = s.a := rfl
@[simp] theorem logOp_x (op : BusOp) (s : State) : (logOp op s).x = s.x := rfl
@[simp] theorem logOp_y (op : BusOp) (s : State) : (logOp op s).y = s.y := rfl
@[simp] theorem logOp_sp (op : BusOp) (s : State) : (logOp op s).sp = s.sp := rfl
@[simp] theorem logOp_pc (op : BusOp) (s : State) : (logOp op s).pc = s.pc := rfl
@[simp] theorem logOp_p (op : BusOp) (s : State) : (logOp op s).p = s.p := rfl
@[simp] theorem logOp_addressAbsolute (op : BusOp) (s : State) : (logOp op s).addressAbsolute = s.addressAbsolute := rfl
@[simp] theorem logOp_addressRelative (op : BusOp) (s : State) : (logOp op s).addressRelative = s.addressRelative := rfl
@[simp] theorem logOp_opcode (op : BusOp) (s : State) : (logOp op s).opcode = s.opcode := rfl
@[simp] theorem logOp_fetched (op : BusOp) (s : State) : (logOp op s).fetched = s.fetched := rfl
@[simp] theorem logOp_cycles (op : BusOp) (s : State) : (logOp op s).cycles = s.cycles := rfl
@[simp] theorem logOp_fetchValid (op : BusOp) (s : State) : (logOp op s).fetchValid = s.fetchValid := rfl
@[simp] theorem logOp_instrLatched (op : BusOp) (s : State) : (logOp op s).instrLatched = s.instrLatched := rfl
@[simp] theorem logOp_faulted (op : BusOp) (s : State) : (logOp op s).faulted = s.faulted := rfl
@[simp] theorem logOp_mem (op : BusOp) (s : State) : (logOp op s).mem = s.mem := rfl
@[simp] theorem logOp_params (op : BusOp) (s : State) : (logOp op s).params = s.params := rfl
@[simp] theorem logOp_inputs (op : BusOp) (s : State) : (logOp op s).inputs = s.inputs := rfl
@[simp] theorem logOp_busOps (op : BusOp) (s : State) : (logOp op s).busOps = s.busOps ++ [op] := rfl
@[simp] theorem logOp_deviceReads (op : BusOp) (s : State) : (logOp op s).deviceReads = s.deviceReads := rfl

/-! `latchOpcode` writes the opcode latch, pc and the two hidden bits (40_cpu_cycle.md R104). -/

@[simp] theorem latchOpcode_a (b : Byte) (s : State) : (latchOpcode b s).a = s.a := rfl
@[simp] theorem latchOpcode_x (b : Byte) (s : State) : (latchOpcode b s).x = s.x := rfl
@[simp] theorem latchOpcode_y (b : Byte) (s : State) : (latchOpcode b s).y = s.y := rfl
@[simp] theorem latchOpcode_sp (b : Byte) (s : State) : (latchOpcode b s).sp = s.sp := rfl
@[simp] theorem latchOpcode_pc (b : Byte) (s : State) : (latchOpcode b s).pc = s.pc + 1 := rfl
@[simp] theorem latchOpcode_p (b : Byte) (s : State) : (latchOpcode b s).p = s.p := rfl
@[simp] theorem latchOpcode_addressAbsolute (b : Byte) (s : State) : (latchOpcode b s).addressAbsolute = s.addressAbsolute := rfl
@[simp] theorem latchOpcode_addressRelative (b : Byte) (s : State) : (latchOpcode b s).addressRelative = s.addressRelative := rfl
@[simp] theorem latchOpcode_opcode (b : Byte) (s : State) : (latchOpcode b s).opcode = b := rfl
@[simp] theorem latchOpcode_fetched (b : Byte) (s : State) : (latchOpcode b s).fetched = s.fetched := rfl
@[simp] theorem latchOpcode_cycles (b : Byte) (s : State) : (latchOpcode b s).cycles = s.cycles := rfl
@[simp] theorem latchOpcode_fetchValid (b : Byte) (s : State) : (latchOpcode b s).fetchValid = false := rfl
@[simp] theorem latchOpcode_instrLatched (b : Byte) (s : State) : (latchOpcode b s).instrLatched = true := rfl
@[simp] theorem latchOpcode_faulted (b : Byte) (s : State) : (latchOpcode b s).faulted = s.faulted := rfl
@[simp] theorem latchOpcode_mem (b : Byte) (s : State) : (latchOpcode b s).mem = s.mem := rfl
@[simp] theorem latchOpcode_params (b : Byte) (s : State) : (latchOpcode b s).params = s.params := rfl
@[simp] theorem latchOpcode_inputs (b : Byte) (s : State) : (latchOpcode b s).inputs = s.inputs := rfl
@[simp] theorem latchOpcode_busOps (b : Byte) (s : State) : (latchOpcode b s).busOps = s.busOps := rfl
@[simp] theorem latchOpcode_deviceReads (b : Byte) (s : State) : (latchOpcode b s).deviceReads = s.deviceReads := rfl

/-! `store` changes the memory only, `memWrite` the memory and the bus operations. -/

@[simp] theorem store_a (a : Word) (v : Byte) (s : State) : (store a v s).a = s.a := by
  unfold store; split <;> rfl
@[simp] theorem memWrite_a (a : Word) (v : Byte) (s : State) : (memWrite a v s).a = s.a := by
  simp [memWrite]
@[simp] theorem store_x (a : Word) (v : Byte) (s : State) : (store a v s).x = s.x := by
  unfold store; split <;> rfl
@[simp] theorem memWrite_x (a : Word) (v : Byte) (s : State) : (memWrite a v s).x = s.x := by
  simp [memWrite]
@[simp] theorem store_y (a : Word) (v : Byte) (s : State) : (store a v s).y = s.y := by
  unfold store; split <;> rfl
@[simp] theorem memWrite_y (a : Word) (v : Byte) (s : State) : (memWrite a v s).y = s.y := by
  simp [memWrite]
@[simp] theorem store_sp (a : Word) (v : Byte) (s : State) : (store a v s).sp = s.sp := by
  unfold store; split <;> rfl
@[simp] theorem memWrite_sp (a : Word) (v : Byte) (s : State) : (memWrite a v s).sp = s.sp := by
  simp [memWrite]
@[simp] theorem store_pc (a : Word) (v : Byte) (s : State) : (store a v s).pc = s.pc := by
  unfold store; split <;> rfl
@[simp] theorem memWrite_pc (a : Word) (v : Byte) (s : State) : (memWrite a v s).pc = s.pc := by
  simp [memWrite]
@[simp] theorem store_p (a : Word) (v : Byte) (s : State) : (store a v s).p = s.p := by
  unfold store; split <;> rfl
@[simp] theorem memWrite_p (a : Word) (v : Byte) (s : State) : (memWrite a v s).p = s.p := by
  simp [memWrite]
@[simp] theorem store_addressAbsolute (a : Word) (v : Byte) (s : State) : (store a v s).addressAbsolute = s.addressAbsolute := by
  unfold store; split <;> rfl
@[simp] theorem memWrite_addressAbsolute (a : Word) (v : Byte) (s : State) : (memWrite a v s).addressAbsolute = s.addressAbsolute := by
  simp [memWrite]
@[simp] theorem store_addressRelative (a : Word) (v : Byte) (s : State) : (store a v s).addressRelative = s.addressRelative := by
  unfold store; split <;> rfl
@[simp] theorem memWrite_addressRelative (a : Word) (v : Byte) (s : State) : (memWrite a v s).addressRelative = s.addressRelative := by
  simp [memWrite]
@[simp] theorem store_opcode (a : Word) (v : Byte) (s : State) : (store a v s).opcode = s.opcode := by
  unfold store; split <;> rfl
@[simp] theorem memWrite_opcode (a : Word) (v : Byte) (s : State) : (memWrite a v s).opcode = s.opcode := by
  simp [memWrite]
@[simp] theorem store_fetched (a : Word) (v : Byte) (s : State) : (store a v s).fetched = s.fetched := by
  unfold store; split <;> rfl
@[simp] theorem memWrite_fetched (a : Word) (v : Byte) (s : State) : (memWrite a v s).fetched = s.fetched := by
  simp [memWrite]
@[simp] theorem store_cycles (a : Word) (v : Byte) (s : State) : (store a v s).cycles = s.cycles := by
  unfold store; split <;> rfl
@[simp] theorem memWrite_cycles (a : Word) (v : Byte) (s : State) : (memWrite a v s).cycles = s.cycles := by
  simp [memWrite]
@[simp] theorem store_fetchValid (a : Word) (v : Byte) (s : State) : (store a v s).fetchValid = s.fetchValid := by
  unfold store; split <;> rfl
@[simp] theorem memWrite_fetchValid (a : Word) (v : Byte) (s : State) : (memWrite a v s).fetchValid = s.fetchValid := by
  simp [memWrite]
@[simp] theorem store_instrLatched (a : Word) (v : Byte) (s : State) : (store a v s).instrLatched = s.instrLatched := by
  unfold store; split <;> rfl
@[simp] theorem memWrite_instrLatched (a : Word) (v : Byte) (s : State) : (memWrite a v s).instrLatched = s.instrLatched := by
  simp [memWrite]
@[simp] theorem store_faulted (a : Word) (v : Byte) (s : State) : (store a v s).faulted = s.faulted := by
  unfold store; split <;> rfl
@[simp] theorem memWrite_faulted (a : Word) (v : Byte) (s : State) : (memWrite a v s).faulted = s.faulted := by
  simp [memWrite]
@[simp] theorem store_params (a : Word) (v : Byte) (s : State) : (store a v s).params = s.params := by
  unfold store; split <;> rfl
@[simp] theorem memWrite_params (a : Word) (v : Byte) (s : State) : (memWrite a v s).params = s.params := by
  simp [memWrite]
@[simp] theorem store_inputs (a : Word) (v : Byte) (s : State) : (store a v s).inputs = s.inputs := by
  unfold store; split <;> rfl
@[simp] theorem memWrite_inputs (a : Word) (v : Byte) (s : State) : (memWrite a v s).inputs = s.inputs := by
  simp [memWrite]
@[simp] theorem store_busOps (a : Word) (v : Byte) (s : State) : (store a v s).busOps = s.busOps := by
  unfold store; split <;> rfl
@[simp] theorem memWrite_busOps (a : Word) (v : Byte) (s : State) :
    (memWrite a v s).busOps = s.busOps ++ [.write a v] := by
  simp [memWrite]
@[simp] theorem store_deviceReads (a : Word) (v : Byte) (s : State) : (store a v s).deviceReads = s.deviceReads := by
  unfold store; split <;> rfl
@[simp] theorem memWrite_deviceReads (a : Word) (v : Byte) (s : State) : (memWrite a v s).deviceReads = s.deviceReads := by
  simp [memWrite]
@[simp] theorem memWrite_mem (a : Word) (v : Byte) (s : State) : (memWrite a v s).mem = (store a v s).mem := rfl

/-! `push8` and `push16` change the memory, the bus operations and SP. -/

@[simp] theorem push8_a (v : Byte) (s : State) : (push8 v s).a = s.a := by
  simp [push8]
@[simp] theorem push16_a (w : Word) (s : State) : (push16 w s).a = s.a := by
  simp [push16]
@[simp] theorem push8_x (v : Byte) (s : State) : (push8 v s).x = s.x := by
  simp [push8]
@[simp] theorem push16_x (w : Word) (s : State) : (push16 w s).x = s.x := by
  simp [push16]
@[simp] theorem push8_y (v : Byte) (s : State) : (push8 v s).y = s.y := by
  simp [push8]
@[simp] theorem push16_y (w : Word) (s : State) : (push16 w s).y = s.y := by
  simp [push16]
@[simp] theorem push8_pc (v : Byte) (s : State) : (push8 v s).pc = s.pc := by
  simp [push8]
@[simp] theorem push16_pc (w : Word) (s : State) : (push16 w s).pc = s.pc := by
  simp [push16]
@[simp] theorem push8_p (v : Byte) (s : State) : (push8 v s).p = s.p := by
  simp [push8]
@[simp] theorem push16_p (w : Word) (s : State) : (push16 w s).p = s.p := by
  simp [push16]
@[simp] theorem push8_addressAbsolute (v : Byte) (s : State) : (push8 v s).addressAbsolute = s.addressAbsolute := by
  simp [push8]
@[simp] theorem push16_addressAbsolute (w : Word) (s : State) : (push16 w s).addressAbsolute = s.addressAbsolute := by
  simp [push16]
@[simp] theorem push8_addressRelative (v : Byte) (s : State) : (push8 v s).addressRelative = s.addressRelative := by
  simp [push8]
@[simp] theorem push16_addressRelative (w : Word) (s : State) : (push16 w s).addressRelative = s.addressRelative := by
  simp [push16]
@[simp] theorem push8_opcode (v : Byte) (s : State) : (push8 v s).opcode = s.opcode := by
  simp [push8]
@[simp] theorem push16_opcode (w : Word) (s : State) : (push16 w s).opcode = s.opcode := by
  simp [push16]
@[simp] theorem push8_fetched (v : Byte) (s : State) : (push8 v s).fetched = s.fetched := by
  simp [push8]
@[simp] theorem push16_fetched (w : Word) (s : State) : (push16 w s).fetched = s.fetched := by
  simp [push16]
@[simp] theorem push8_cycles (v : Byte) (s : State) : (push8 v s).cycles = s.cycles := by
  simp [push8]
@[simp] theorem push16_cycles (w : Word) (s : State) : (push16 w s).cycles = s.cycles := by
  simp [push16]
@[simp] theorem push8_fetchValid (v : Byte) (s : State) : (push8 v s).fetchValid = s.fetchValid := by
  simp [push8]
@[simp] theorem push16_fetchValid (w : Word) (s : State) : (push16 w s).fetchValid = s.fetchValid := by
  simp [push16]
@[simp] theorem push8_instrLatched (v : Byte) (s : State) : (push8 v s).instrLatched = s.instrLatched := by
  simp [push8]
@[simp] theorem push16_instrLatched (w : Word) (s : State) : (push16 w s).instrLatched = s.instrLatched := by
  simp [push16]
@[simp] theorem push8_faulted (v : Byte) (s : State) : (push8 v s).faulted = s.faulted := by
  simp [push8]
@[simp] theorem push16_faulted (w : Word) (s : State) : (push16 w s).faulted = s.faulted := by
  simp [push16]
@[simp] theorem push8_params (v : Byte) (s : State) : (push8 v s).params = s.params := by
  simp [push8]
@[simp] theorem push16_params (w : Word) (s : State) : (push16 w s).params = s.params := by
  simp [push16]
@[simp] theorem push8_inputs (v : Byte) (s : State) : (push8 v s).inputs = s.inputs := by
  simp [push8]
@[simp] theorem push16_inputs (w : Word) (s : State) : (push16 w s).inputs = s.inputs := by
  simp [push16]
@[simp] theorem push8_deviceReads (v : Byte) (s : State) : (push8 v s).deviceReads = s.deviceReads := by
  simp [push8]
@[simp] theorem push16_deviceReads (w : Word) (s : State) : (push16 w s).deviceReads = s.deviceReads := by
  simp [push16]
@[simp] theorem push8_sp (v : Byte) (s : State) : (push8 v s).sp = s.sp - 1 := by
  simp [push8]
@[simp] theorem push8_busOps (v : Byte) (s : State) :
    (push8 v s).busOps = s.busOps ++ [.write (stackAddress s.sp) v] := by
  simp [push8]
@[simp] theorem push16_sp (w : Word) (s : State) : (push16 w s).sp = s.sp - 2 := by
  simp only [push16, push8_sp]; bv_omega
@[simp] theorem push16_busOps (w : Word) (s : State) :
    (push16 w s).busOps = s.busOps ++ [.write (stackAddress s.sp) (hiByte w), .write (stackAddress (s.sp - 1)) (loByte w)] := by
  simp [push16]

end Sys2Proof.Machine
end

