-- ==== Sys2Proof/Laws/Bus.lean ====
section
/-! SUPPORT. What each bus and stack operation can do: once for every bus, and once for the flat bus, where nothing
fails. -/

namespace Sys2Proof.Machine

@[simp] theorem andThen_next {α β : Type} (v : α) (k : α → Res β) : andThen (.next v) k = k v := rfl
@[simp] theorem andThen_fault {α β : Type} (f : Fault) (k : α → Res β) : andThen (.fault f) k = .fault f := rfl
@[simp] theorem andThen_refused {α β : Type} (f : Refusal) (k : α → Res β) : andThen (.refused f) k = .refused f := rfl

/-- An answer of a composed operation comes from an answer of its first part. -/
theorem andThen_eq_next {α β : Type} {r : Res α} {k : α → Res β} {b : β} (h : andThen r k = .next b) :
    ∃ a, r = .next a ∧ k a = .next b := by
  cases r with
  | next a => exact ⟨a, rfl, h⟩
  | fault _ => cases h
  | refused _ => cases h

@[simp] theorem accessAt_flat (a : Word) : accessAt .flat a = .ram := rfl

/-- The flat bus delivers the byte of its RAM. -/
theorem busByte_flat {s : State} (h : s.params.bus = .flat) (a : Word) : busByte s a = Memory.read s.mem a.toNat := by
  simp [busByte, h]

/-! Every bus. -/

/-- A bus read that answers changes the bus operations and the count of device reads, nothing else. -/
theorem busRead_next {a : Word} {v : Byte} {s t : State} (h : busRead a v s = .next t) :
    t = { s with busOps := s.busOps ++ [.read a v], deviceReads := t.deviceReads } := by
  unfold busRead at h
  split at h
  · cases h; rfl
  · cases h; rfl
  · split at h
    · cases h
    · cases h; rfl

/-- The only end of a bus read is BusFault, at an absent address under the policy `fault` (20_memory.md R54). -/
theorem busRead_fault {a : Word} {v : Byte} {s : State} {f : Fault} (h : busRead a v s = .fault f) :
    f = .busFault a ∧ accessAt s.params.bus a = .absent ∧ s.params.absentPolicy = .fault := by
  unfold busRead at h
  split at h
  · cases h
  · cases h
  · split at h
    · cases h
      exact ⟨rfl, by assumption, by assumption⟩
    · cases h

theorem busRead_not_refused {a : Word} {v : Byte} {s : State} {f : Refusal} : busRead a v s ≠ .refused f := by
  unfold busRead
  split
  · simp
  · simp
  · split <;> simp

/-- `MemRead` that answers: the byte the bus delivers, one more bus operation, nothing else. -/
theorem memRead_next {a : Word} {s : State} {r : Byte × State} (h : memRead a s = .next r) :
    r.1 = busByte s a ∧
      r.2 = { s with busOps := s.busOps ++ [.read a (busByte s a)], deviceReads := r.2.deviceReads } := by
  obtain ⟨t, h1, h2⟩ := andThen_eq_next h
  cases h2
  exact ⟨rfl, busRead_next h1⟩

/-- A read of a device counts, no other read does (log 7). -/
theorem memRead_deviceReads {a : Word} {s : State} {r : Byte × State} (h : memRead a s = .next r) :
    r.2.deviceReads = s.deviceReads + if accessAt s.params.bus a = .device then 1 else 0 := by
  obtain ⟨t, h1, h2⟩ := andThen_eq_next h
  cases h2
  unfold busRead at h1
  split at h1
  · rename_i hk; cases h1; simp [logOp, hk]
  · rename_i hk; cases h1; simp [logOp, hk]
  · rename_i hk
    split at h1
    · cases h1
    · cases h1; simp [logOp, hk]

/-- `next8` that answers: pc moved on by one, one more bus operation, nothing else. -/
theorem next8_next {d : Byte} {s t : State} (h : next8 d s = .next t) :
    t = { s with pc := s.pc + 1, busOps := s.busOps ++ [.read s.pc d], deviceReads := t.deviceReads } := by
  obtain ⟨u, h1, h2⟩ := andThen_eq_next h
  cases h2
  have hu := busRead_next h1
  rw [hu]

/-- `pull8` that answers: SP incremented, the byte at the new stack address, one more bus operation, nothing else. -/
theorem pull8_next {s : State} {r : Byte × State} (h : pull8 s = .next r) :
    r.1 = busByte s (stackAddress (s.sp + 1)) ∧
      r.2 = { s with
        sp := s.sp + 1, deviceReads := r.2.deviceReads
        busOps := s.busOps ++ [.read (stackAddress (s.sp + 1)) (busByte s (stackAddress (s.sp + 1)))] } :=
  memRead_next h

/-- A store keeps the canonical form of the memory (20_memory.md R53). -/
theorem store_wf {a : Word} {v : Byte} {s : State} (h : Memory.wf s.mem = true) : Memory.wf (store a v s).mem = true := by
  unfold store
  split
  · exact Memory.write_wf (by have := a.isLt; omega) h
  · exact h
  · exact h

theorem memWrite_wf {a : Word} {v : Byte} {s : State} (h : Memory.wf s.mem = true) :
    Memory.wf (memWrite a v s).mem = true := store_wf h

theorem push8_wf {v : Byte} {s : State} (h : Memory.wf s.mem = true) : Memory.wf (push8 v s).mem = true := memWrite_wf h

theorem push16_wf {w : Word} {s : State} (h : Memory.wf s.mem = true) : Memory.wf (push16 w s).mem = true :=
  push8_wf (push8_wf h)

/-! The flat bus (20_memory.md R53). -/

theorem busRead_flat {s : State} (h : s.params.bus = .flat) (a : Word) (v : Byte) :
    busRead a v s = .next { s with busOps := s.busOps ++ [.read a v] } := by
  simp [busRead, h, logOp]

theorem memRead_flat {s : State} (h : s.params.bus = .flat) (a : Word) :
    memRead a s =
      .next (Memory.read s.mem a.toNat, { s with busOps := s.busOps ++ [.read a (Memory.read s.mem a.toNat)] }) := by
  simp [memRead, busRead_flat h, busByte_flat h]

theorem store_flat {s : State} (h : s.params.bus = .flat) (a : Word) (v : Byte) :
    store a v s = { s with mem := Memory.write s.mem a.toNat v } := by
  simp [store, h]

theorem memWrite_flat {s : State} (h : s.params.bus = .flat) (a : Word) (v : Byte) :
    memWrite a v s = { s with mem := Memory.write s.mem a.toNat v, busOps := s.busOps ++ [.write a v] } := by
  simp [memWrite, store_flat h, logOp]

theorem next8_flat {s : State} (h : s.params.bus = .flat) (d : Byte) :
    next8 d s = .next { s with pc := s.pc + 1, busOps := s.busOps ++ [.read s.pc d] } := by
  simp [next8, busRead_flat h]

theorem read16_flat {s : State} (h : s.params.bus = .flat) (a : Word) :
    read16 a s =
      .next (wordOf (Memory.read s.mem (a + 1).toNat) (Memory.read s.mem a.toNat),
        { s with busOps := s.busOps ++ [.read a (Memory.read s.mem a.toNat),
            .read (a + 1) (Memory.read s.mem (a + 1).toNat)] }) := by
  simp [read16, memRead_flat, h]

theorem pull8_flat {s : State} (h : s.params.bus = .flat) :
    pull8 s =
      .next (Memory.read s.mem (stackAddress (s.sp + 1)).toNat,
        { s with
          sp := s.sp + 1
          busOps := s.busOps ++
            [.read (stackAddress (s.sp + 1)) (Memory.read s.mem (stackAddress (s.sp + 1)).toNat)] }) := by
  simp [pull8, memRead_flat, h]

theorem pull16_flat {s : State} (h : s.params.bus = .flat) :
    pull16 s =
      .next (wordOf (Memory.read s.mem (stackAddress (s.sp + 2)).toNat) (Memory.read s.mem (stackAddress (s.sp + 1)).toNat),
        { s with
          sp := s.sp + 2
          busOps := s.busOps ++
            [.read (stackAddress (s.sp + 1)) (Memory.read s.mem (stackAddress (s.sp + 1)).toNat),
             .read (stackAddress (s.sp + 2)) (Memory.read s.mem (stackAddress (s.sp + 2)).toNat)] }) := by
  have h2 : s.sp + 1#8 + 1#8 = s.sp + 2#8 := by bv_omega
  simp [pull16, pull8_flat, h, h2]

theorem push8_flat {s : State} (h : s.params.bus = .flat) (v : Byte) :
    push8 v s =
      { s with
        sp := s.sp - 1
        mem := Memory.write s.mem (stackAddress s.sp).toNat v
        busOps := s.busOps ++ [.write (stackAddress s.sp) v] } := by
  simp [push8, memWrite_flat h]

theorem push16_flat {s : State} (h : s.params.bus = .flat) (w : Word) :
    push16 w s =
      { s with
        sp := s.sp - 2
        mem := Memory.write (Memory.write s.mem (stackAddress s.sp).toNat (hiByte w)) (stackAddress (s.sp - 1)).toNat (loByte w)
        busOps := s.busOps ++ [.write (stackAddress s.sp) (hiByte w), .write (stackAddress (s.sp - 1)) (loByte w)] } := by
  have h2 : s.sp - 1#8 - 1#8 = s.sp - 2#8 := by bv_omega
  simp [push16, push8_flat, h, h2]

end Sys2Proof.Machine
end

