-- ==== Sys2Proof/Laws/Decode.lean ====
section
/-! SUPPORT. What the decoder answers, from the shape its opcode byte has in the matrix. -/

namespace Sys2Proof

theorem decode_unassigned {b : Byte} (h : shapeOf b = none) (rest : List Byte) : decode (b :: rest) = .error (.unassigned b) := by
  simp only [decode, h]

theorem decode_op {b : Byte} {i : Instr} (h : shapeOf b = some (.op i)) (rest : List Byte) : decode (b :: rest) = .ok (i, rest) := by
  simp only [decode, h]

theorem decode_d8 {b : Byte} {make : Byte → Instr} (h : shapeOf b = some (.d8 make)) (d : Byte) (rest : List Byte) :
    decode (b :: d :: rest) = .ok (make d, rest) := by
  simp only [decode, h]

theorem decode_a16 {b : Byte} {make : Word → Instr} (h : shapeOf b = some (.a16 make)) (lo hi : Byte) (rest : List Byte) :
    decode (b :: lo :: hi :: rest) = .ok (make (hi ++ lo), rest) := by
  simp only [decode, h]

/-- The word of two operand bytes is the operand they were cut from. -/
theorem operand_word (a : Word) : (a.extractLsb' 8 8 ++ a.extractLsb' 0 8 : BitVec 16) = a := by
  have hlo : (a.extractLsb' 0 8).toNat < 2 ^ 8 := (a.extractLsb' 0 8).isLt
  have ha := a.isLt
  apply BitVec.eq_of_toNat_eq
  refine (BitVec.toNat_append _ _).trans ?_
  rw [Nat.shiftLeft_eq, Nat.mul_comm, ← Nat.two_pow_add_eq_or_of_lt hlo]
  simp only [BitVec.extractLsb'_toNat, Nat.shiftRight_eq_div_pow]
  omega

/-- A displacement in range is the signed reading of its byte (30_encoding.md R82). -/
theorem displacementOf_byte {offset : Int} (h : displacementInRange offset = true) :
    displacementOf (displacementByte offset) = offset := by
  simp only [displacementInRange, Bool.and_eq_true, decide_eq_true_eq] at h
  rw [displacementOf, displacementByte, BitVec.toInt_ofInt]
  simp only [Int.bmod]
  omega

theorem displacementByte_of (d : Byte) : displacementByte (displacementOf d) = d := BitVec.ofInt_toInt

theorem displacementOf_inRange (d : Byte) : displacementInRange (displacementOf d) = true := by
  have h1 := BitVec.le_toInt d
  have h2 := BitVec.toInt_lt (x := d)
  rw [displacementInRange, displacementOf, decide_eq_true (by omega), decide_eq_true (by omega)]
  rfl

end Sys2Proof
end

