-- ==== Sys2Proof/Laws/Operands.lean ====
section
/-! SUPPORT. What the resolver and the operand fetch can do: on every bus they write their latches only, and on the flat
bus they compute `effectiveAddress`, `crosses` and `operandByte`. -/

namespace Sys2Proof.Machine

/-- The flat bus reads a pointer in two reads of one page (41_addressing_modes.md R131 to R133). -/
theorem readPointer_flat {s : State} (h : s.params.bus = .flat) (a : Word) :
    readPointer a s = .next (pointerAt s a, { s with busOps := s.busOps ++ [readOf s a, readOf s (nextInPage a)] }) := by
  simp [readPointer, memRead_flat, h, pointerAt, readOf]

theorem next16_flat {s : State} (h : s.params.bus = .flat) (w : Word) :
    next16 w s =
      .next { s with
        pc := s.pc + 2, busOps := s.busOps ++ [.read s.pc (loByte w), .read (s.pc + 1) (hiByte w)] } := by
  have h2 : s.pc + 1#16 + 1#16 = s.pc + 2#16 := by bv_omega
  simp [next16, next8_flat, h, h2]

/-- The resolver on the flat bus, after the opcode latch: the latches and pc of `resolvedState`, the crossing of R134. -/
theorem resolve_flat {s : State} (h : s.params.bus = .flat) (b : Byte) (m : Operand) :
    resolve m (latchOpcode b s) =
      .next (crosses m s, { latchOpcode b s with
        pc := s.pc + BitVec.ofNat 16 (1 + m.mode.operandBytes)
        addressAbsolute := effectiveAddress m s
        addressRelative := relativeLatch m s
        busOps := s.busOps ++ resolverReads m s }) := by
  have hl : (latchOpcode b s).params.bus = .flat := h
  have h2 : s.pc + 1#16 + 1#16 = s.pc + 2#16 := by bv_omega
  have h3 : s.pc + 1#16 + 2#16 = s.pc + 3#16 := by bv_omega
  cases m <;>
    simp [resolve, resolved, resolvedIndexed, next8_flat, next16_flat, readPointer_flat, h, crosses, effectiveAddress,
      relativeLatch, resolverReads, indexBase, latchOpcode, Operand.mode, Mode.operandBytes, h2, h3, pointerAt, readOf]

/-- The operand fetch on the flat bus, right after the opcode latch cleared `fetch_valid`: one read of the effective
address, the byte latched (40_cpu_cycle.md R108). -/
theorem fetchOperand_flat {s : State} (h : s.params.bus = .flat) (hv : s.fetchValid = false) {m : Operand} {v : Byte}
    (hd : v = match m with | .immediate d8 => d8 | _ => Memory.read s.mem s.addressAbsolute.toNat)
    (hm : hasNoAddress m.mode = false) :
    fetchOperand m s =
      .next (v, { s with fetched := v, fetchValid := true, busOps := s.busOps ++ [.read s.addressAbsolute v] }) := by
  subst hd
  cases m <;>
    first
    | (simp [hasNoAddress, Operand.mode] at hm; done)
    | simp [fetchOperand, fetchBy, operandRead, memRead_flat, busRead_flat, Operand.mode, hasNoAddress, h, hv]

/-- A state that differs from another in pc, the resolver's latches, the bus operations and the count of device reads
at most. -/
def ResolverFrame (s t : State) : Prop :=
  t = { s with
    pc := t.pc, addressAbsolute := t.addressAbsolute, addressRelative := t.addressRelative
    busOps := t.busOps, deviceReads := t.deviceReads }

theorem ResolverFrame.refl (s : State) : ResolverFrame s s := rfl

theorem ResolverFrame.trans {s t u : State} (h : ResolverFrame s t) (k : ResolverFrame t u) : ResolverFrame s u := by
  obtain ⟨pc, aa, ar, bo, dr, rfl⟩ : ∃ pc aa ar bo dr, t = { s with
      pc := pc, addressAbsolute := aa, addressRelative := ar, busOps := bo, deviceReads := dr } := ⟨_, _, _, _, _, h⟩
  exact k

/-- A step of the resolver that answers: what comes before it kept the frame, so what it leaves does. -/
theorem busRead_frame {a : Word} {v : Byte} {s t : State} (h : busRead a v s = .next t) : ResolverFrame s t := by
  obtain ⟨dr, rfl⟩ : ∃ dr, t = { s with busOps := s.busOps ++ [.read a v], deviceReads := dr } := ⟨_, busRead_next h⟩
  rfl

theorem memRead_frame {a : Word} {s : State} {r : Byte × State} (h : memRead a s = .next r) : ResolverFrame s r.2 := by
  obtain ⟨t, h1, h2⟩ := andThen_eq_next h
  cases h2
  exact busRead_frame h1

theorem next8_frame {d : Byte} {s t : State} (h : next8 d s = .next t) : ResolverFrame s t := by
  obtain ⟨u, h1, h2⟩ := andThen_eq_next h
  cases h2
  exact (busRead_frame h1).trans rfl

theorem next16_frame {w : Word} {s t : State} (h : next16 w s = .next t) : ResolverFrame s t := by
  obtain ⟨u, h1, h2⟩ := andThen_eq_next h
  exact (next8_frame h1).trans (next8_frame h2)

theorem readPointer_frame {a : Word} {s : State} {r : Word × State} (h : readPointer a s = .next r) :
    ResolverFrame s r.2 := by
  obtain ⟨q1, h1, h2⟩ := andThen_eq_next h
  obtain ⟨q2, h3, h4⟩ := andThen_eq_next h2
  cases h4
  exact (memRead_frame h1).trans (memRead_frame h3)

/-- The resolver on every bus: it writes pc and its two latches, and its reads stand among the bus operations. -/
theorem resolve_frame {m : Operand} {s : State} {r : Bool × State} (h : resolve m s = .next r) : ResolverFrame s r.2 := by
  cases m with
  | implied | accumulator | immediate d => cases h; rfl
  | zeroPage d | zeroPageX d | zeroPageY d | relative d =>
    obtain ⟨t, h1, h2⟩ := andThen_eq_next h
    cases h2
    exact (next8_frame h1).trans rfl
  | absolute w | absoluteX w | absoluteY w =>
    obtain ⟨t, h1, h2⟩ := andThen_eq_next h
    cases h2
    exact (next16_frame h1).trans rfl
  | indirect w =>
    obtain ⟨t, h1, h2⟩ := andThen_eq_next h
    obtain ⟨q, h3, h4⟩ := andThen_eq_next h2
    cases h4
    exact ((next16_frame h1).trans (readPointer_frame h3)).trans rfl
  | indirectX d | indirectY d =>
    obtain ⟨t, h1, h2⟩ := andThen_eq_next h
    obtain ⟨q, h3, h4⟩ := andThen_eq_next h2
    cases h4
    exact ((next8_frame h1).trans (readPointer_frame h3)).trans rfl

theorem operandRead_frame {m : Operand} {s : State} {r : Byte × State} (h : operandRead m s = .next r) :
    ResolverFrame s r.2 := by
  cases m with
  | immediate d =>
    obtain ⟨t, h1, h2⟩ := andThen_eq_next h
    cases h2
    exact busRead_frame h1
  | implied | accumulator | zeroPage _ | zeroPageX _ | zeroPageY _ | absolute _ | absoluteX _ | absoluteY _
  | relative _ | indirect _ | indirectX _ | indirectY _ => exact memRead_frame h

/-- The operand fetch on every bus: it writes the operand latch and its bit, and its read stands among the bus
operations. -/
theorem fetchOperand_next {m : Operand} {s : State} {r : Byte × State} (h : fetchOperand m s = .next r) :
    ∃ t, ResolverFrame s t ∧ (r.2 = s ∧ r.1 = s.fetched ∨ r.2 = { t with fetched := r.1, fetchValid := true }) := by
  unfold fetchOperand fetchBy at h
  split at h
  · cases h; exact ⟨s, rfl, .inl ⟨rfl, rfl⟩⟩
  · split at h
    · cases h; exact ⟨s, rfl, .inl ⟨rfl, rfl⟩⟩
    · obtain ⟨q, h1, h2⟩ := andThen_eq_next h
      cases h2
      exact ⟨q.2, operandRead_frame h1, .inr rfl⟩

end Sys2Proof.Machine
end

