-- ==== Sys2Proof/Laws/Exec.lean ====
section
/-! SUPPORT. What `exec` is, once for all 229 constructors: the frame of 40_cpu_cycle.md R103 around one executor per
operation, on every bus and on the flat bus. -/

namespace Sys2Proof.Machine

/-- The executor of an operation: what the meanings of its rows share. -/
def executorOf : Operation → Executor
  | .adc => opAdc
  | .sbc => opSbc
  | .and => opAnd
  | .eor => opEor
  | .ora => opOra
  | .asl => opAsl
  | .lsr => opLsr
  | .rol => opRol
  | .ror => opRor
  | .inc => opInc
  | .dec => opDec
  | .inx => opInx
  | .iny => opIny
  | .dex => opDex
  | .dey => opDey
  | .lda => opLda
  | .ldx => opLdx
  | .ldy => opLdy
  | .sta => opSta
  | .stx => opStx
  | .sty => opSty
  | .sec => opSec
  | .sed => opSed
  | .sei => opSei
  | .clc => opClc
  | .cld => opCld
  | .cli => opCli
  | .clv => opClv
  | .cmp => opCmp
  | .cpx => opCpx
  | .cpy => opCpy
  | .jmp => opJmp
  | .jsr => opJsr
  | .rti => opRti
  | .rts => opRts
  | .bcc => opBcc
  | .bcs => opBcs
  | .beq => opBeq
  | .bne => opBne
  | .bmi => opBmi
  | .bpl => opBpl
  | .bvc => opBvc
  | .bvs => opBvs
  | .pha => opPha
  | .php => opPhp
  | .pla => opPla
  | .plp => opPlp
  | .tax => opTax
  | .tay => opTay
  | .tsx => opTsx
  | .txa => opTxa
  | .txs => opTxs
  | .tya => opTya
  | .brk => opBrk
  | .bit => opBit
  | .nop => opNop
  | .alr => opAlr
  | .anc => opAnc
  | .arr => opArr
  | .axs => opAxs
  | .lax => opLax
  | .sax => opSax
  | .dcp => opDcp
  | .isc => opIsc
  | .rla => opRla
  | .rra => opRra
  | .slo => opSlo
  | .sre => opSre
  | .skb => opSkb
  | .ign => opIgn

/-- What an instruction runs under UNOFFICIAL_EXEC (49_unofficial.md R235). -/
def runs (u : UnofficialExec) (op : Operation) : Executor :=
  if op.unofficial && decide (u = .nop) then idle else executorOf op

theorem runs_of_official {u : UnofficialExec} {op : Operation} (h : op.unofficial = false) : runs u op = executorOf op := by
  simp [runs, h]

theorem runs_full (op : Operation) : runs .full op = executorOf op := by simp [runs]

theorem runs_nop {op : Operation} (h : op.unofficial = true) : runs .nop op = idle := by simp [runs, h]

/-- An official instruction is the frame around its executor. -/
theorem exec_official (i : Instr) (s : State) (h : i.operation.unofficial = false) :
    exec i s = official i.opcodeByte i.operation i.baseCycles i.operand (executorOf i.operation) s := by
  cases i <;> first | rfl | cases h

/-- An unofficial instruction is the policy of 49_unofficial.md R235 around its executor. -/
theorem exec_unofficial (i : Instr) (s : State) (h : i.operation.unofficial = true) :
    exec i s = unofficial i.opcodeByte i.operation i.baseCycles i.operand (executorOf i.operation) s := by
  cases i <;> first | rfl | cases h

theorem mode_operand (i : Instr) : i.mode = i.operand.mode := by cases i <;> rfl

/-- A permitted instruction is the frame around what it runs. -/
theorem exec_runs (i : Instr) (s : State) (hp : Permitted i s) :
    exec i s =
      runInstruction i.opcodeByte i.operation i.baseCycles i.operand (runs s.params.unofficialExec i.operation) s := by
  cases hu : i.operation.unofficial with
  | false => rw [exec_official i s hu, runs_of_official hu]; rfl
  | true =>
    rw [exec_unofficial i s hu]
    have hne := hp hu
    unfold unofficial
    split
    · rename_i hn; rw [hn, runs_nop hu]
    · rename_i hn; rw [hn, runs_full]
    · contradiction

/-- An unofficial instruction under UNOFFICIAL_EXEC = fault (60_exceptions.md R261). -/
theorem exec_forbidden (i : Instr) (s : State) (h : i.operation.unofficial = true)
    (hf : s.params.unofficialExec = .fault) : exec i s = .fault (.decodeFailure i.opcodeByte s.pc) := by
  rw [exec_unofficial i s h, unofficial, hf]

/-- On the flat bus the resolver leaves `resolvedState`. -/
theorem resolve_resolvedState (i : Instr) {s : State} (h : s.params.bus = .flat) :
    resolve i.operand (latchOpcode i.opcodeByte s) = .next (crosses i.operand s, resolvedState i s) := by
  rw [resolve_flat h, ← mode_operand]; rfl

/-- On the flat bus a permitted instruction is its executor on `resolvedState`, and the cost. -/
theorem exec_flat (i : Instr) {s : State} (h : s.params.bus = .flat) (hp : Permitted i s) :
    exec i s =
      andThen (runs s.params.unofficialExec i.operation i.operand (resolvedState i s)) fun r =>
        .next { r.2 with cycles := totalCost i s r.1 } := by
  rw [exec_runs i s hp, runInstruction, resolve_resolvedState i h]; rfl

/-- The operand fetch after the resolver on the flat bus leaves `fetchedState`. -/
theorem fetchOperand_fetchedState (i : Instr) {s : State} (h : s.params.bus = .flat) (hm : hasNoAddress i.mode = false) :
    fetchOperand i.operand (resolvedState i s) = .next (operandByte i.operand s, fetchedState i s) := by
  have hr : (resolvedState i s).params.bus = .flat := h
  have hd : operandByte i.operand s = match i.operand with
      | .immediate d8 => d8
      | _ => Memory.read s.mem (effectiveAddress i.operand s).toNat := by cases i.operand <;> rfl
  rw [fetchOperand_flat hr rfl (v := operandByte i.operand s) hd (mode_operand i ▸ hm)]
  rfl

/-- A read-class instruction on the flat bus. -/
theorem exec_readClass (i : Instr) {s : State} {f : Byte → State → State} (h : s.params.bus = .flat) (hp : Permitted i s)
    (hm : hasNoAddress i.mode = false) (hf : runs s.params.unofficialExec i.operation = readClass f) :
    exec i s = .next { f (operandByte i.operand s) (fetchedState i s) with cycles := totalCost i s 0 } := by
  rw [exec_flat i h hp, hf, readClass, fetchOperand_fetchedState i h hm]; rfl

/-- A store-class instruction on the flat bus. -/
theorem exec_storeClass (i : Instr) {s : State} {v : State → Byte} (h : s.params.bus = .flat) (hp : Permitted i s)
    (hf : runs s.params.unofficialExec i.operation = storeClass v) :
    exec i s = .next { memWrite (effectiveAddress i.operand s) (v (resolvedState i s)) (resolvedState i s) with
      cycles := totalCost i s 0 } := by
  rw [exec_flat i h hp, hf]; rfl

/-- A read-modify-write of memory on the flat bus. -/
theorem exec_modifyMemory (i : Instr) {s : State} {f : ByteFn} {after : Byte → State → State} (h : s.params.bus = .flat)
    (hm : hasNoAddress i.mode = false) :
    modifyMemory f after i.operand (resolvedState i s) =
      (let q := f (operandByte i.operand s) s.p
       done (after q.1 (memWrite (effectiveAddress i.operand s) q.1 { fetchedState i s with p := q.2 }))) := by
  rw [modifyMemory, fetchOperand_fetchedState i h hm]; rfl

/-- An instruction whose executor reads nothing. -/
theorem exec_direct (i : Instr) {s : State} {f : State → State} (h : s.params.bus = .flat) (hp : Permitted i s)
    (hf : runs s.params.unofficialExec i.operation = direct f) :
    exec i s = .next { f (resolvedState i s) with cycles := totalCost i s 0 } := by
  rw [exec_flat i h hp, hf]; rfl

/-! The entry and the return on the flat bus. -/

/-- The entry on the flat bus: three pushes, P.I, the vector (60_exceptions.md R266). -/
theorem enterInterrupt_flat {s : State} (h : s.params.bus = .flat) (vector returnTo : Word) (status : Byte) :
    enterInterrupt vector returnTo status s =
      (let u := push8 status (push16 returnTo s)
       .next { u with
        p := setFlag bitI true s.p
        pc := wordOf (Memory.read u.mem (vector + 1).toNat) (Memory.read u.mem vector.toNat)
        busOps := u.busOps ++ [.read vector (Memory.read u.mem vector.toNat),
          .read (vector + 1) (Memory.read u.mem (vector + 1).toNat)] }) := by
  have hp : (push8 status (push16 returnTo s)).params.bus = .flat := by simp [h]
  have h2 : ({ push8 status (push16 returnTo s) with
      p := setFlag bitI true (push8 status (push16 returnTo s)).p } : State).params.bus = .flat := hp
  simp only [enterInterrupt, read16_flat h2, andThen_next]
  simp

/-- The return on the flat bus: three pulls (46_control_transfer.md R192). -/
theorem returnFromInterrupt_flat {s : State} (h : s.params.bus = .flat) :
    returnFromInterrupt s =
      .next { s with
        sp := s.sp + 3
        p := pulledStatus (Memory.read s.mem (stackAddress (s.sp + 1)).toNat)
        pc := wordOf (Memory.read s.mem (stackAddress (s.sp + 3)).toNat) (Memory.read s.mem (stackAddress (s.sp + 2)).toNat)
        busOps := s.busOps ++
          [.read (stackAddress (s.sp + 1)) (Memory.read s.mem (stackAddress (s.sp + 1)).toNat),
           .read (stackAddress (s.sp + 2)) (Memory.read s.mem (stackAddress (s.sp + 2)).toNat),
           .read (stackAddress (s.sp + 3)) (Memory.read s.mem (stackAddress (s.sp + 3)).toNat)] } := by
  have h2 : s.sp + 1#8 + 1#8 = s.sp + 2#8 := by bv_omega
  have h3 : s.sp + 1#8 + 2#8 = s.sp + 3#8 := by bv_omega
  simp [returnFromInterrupt, pull8_flat, pull16_flat, h, h2, h3]

end Sys2Proof.Machine
end

