-- ==== Sys2Proof/Laws/Flags.lean ====
section
/-! SUPPORT. What each flag operation does to each bit of a status byte. -/

namespace Sys2Proof.Machine

/-- One bit written, the others kept. -/
theorem flag_setFlag {j k : Nat} {b : Bool} {p : Byte} (hj : j < 8) :
    flag k (setFlag j b p) = if k = j then b else flag k p := by
  unfold flag setFlag
  by_cases hk : k < 8
  · interval_cases j <;> interval_cases k <;> cases b <;> simp
  · have hkj : k ≠ j := by omega
    rw [if_neg hkj, BitVec.getLsbD_of_ge _ _ (by omega), BitVec.getLsbD_of_ge _ _ (by omega)]

theorem flag_setFlag_same {k : Nat} {b : Bool} {p : Byte} (hk : k < 8) : flag k (setFlag k b p) = b := by
  rw [flag_setFlag hk, if_pos rfl]

theorem flag_setFlag_ne {j k : Nat} {b : Bool} {p : Byte} (hj : j < 8) (h : k ≠ j) :
    flag k (setFlag j b p) = flag k p := by
  rw [flag_setFlag hj, if_neg h]

/-- Z and N of a byte, the other bits kept. -/
theorem flag_setZN {k : Nat} {v p : Byte} :
    flag k (setZN v p) = if k = bitN then v.getLsbD 7 else if k = bitZ then decide (v = 0) else flag k p := by
  rw [setZN, flag_setFlag (by decide), flag_setFlag (by decide)]

/-- The top bit of a byte, as a comparison. -/
theorem getLsbD_seven (v : Byte) : v.getLsbD 7 = decide (128 ≤ v.toNat) := by
  rw [← BitVec.msb_eq_getLsbD_last (x := v), BitVec.msb_eq_decide]

/-- Bits 4 and 5 are not taken from the pulled byte. -/
theorem flag_pulledStatus {k : Nat} {m : Byte} :
    flag k (pulledStatus m) = if k = bitU then true else if k = bitB then false else flag k m := by
  unfold flag pulledStatus
  by_cases hk : k < 8
  · interval_cases k <;> simp [bitU, bitB]
  · rw [BitVec.getLsbD_of_ge _ _ (by omega), BitVec.getLsbD_of_ge _ _ (by omega)]
    have h5 : k ≠ bitU := by unfold bitU; omega
    have h4 : k ≠ bitB := by unfold bitB; omega
    rw [if_neg h5, if_neg h4]

end Sys2Proof.Machine
end

