-- ==== Sys2Proof/Laws/Frames.lean ====
section
/-! SUPPORT. One lemma per field of the states the claims name: where a transition begins, what a fault leaves,
and where an executor starts. -/

namespace Sys2Proof.Machine

/-! `begun` takes the host call and forgets the bus operations. -/

@[simp] theorem begun_a (s : State) : (begun s).a = s.a := rfl
@[simp] theorem begun_x (s : State) : (begun s).x = s.x := rfl
@[simp] theorem begun_y (s : State) : (begun s).y = s.y := rfl
@[simp] theorem begun_sp (s : State) : (begun s).sp = s.sp := rfl
@[simp] theorem begun_pc (s : State) : (begun s).pc = s.pc := rfl
@[simp] theorem begun_p (s : State) : (begun s).p = s.p := rfl
@[simp] theorem begun_addressAbsolute (s : State) : (begun s).addressAbsolute = s.addressAbsolute := rfl
@[simp] theorem begun_addressRelative (s : State) : (begun s).addressRelative = s.addressRelative := rfl
@[simp] theorem begun_opcode (s : State) : (begun s).opcode = s.opcode := rfl
@[simp] theorem begun_fetched (s : State) : (begun s).fetched = s.fetched := rfl
@[simp] theorem begun_cycles (s : State) : (begun s).cycles = s.cycles := rfl
@[simp] theorem begun_fetchValid (s : State) : (begun s).fetchValid = s.fetchValid := rfl
@[simp] theorem begun_instrLatched (s : State) : (begun s).instrLatched = s.instrLatched := rfl
@[simp] theorem begun_faulted (s : State) : (begun s).faulted = s.faulted := rfl
@[simp] theorem begun_mem (s : State) : (begun s).mem = s.mem := rfl
@[simp] theorem begun_params (s : State) : (begun s).params = s.params := rfl
@[simp] theorem begun_inputs (s : State) : (begun s).inputs = s.inputs.tail := rfl
@[simp] theorem begun_busOps (s : State) : (begun s).busOps = [] := rfl
@[simp] theorem begun_deviceReads (s : State) : (begun s).deviceReads = s.deviceReads := rfl

/-! What a fault leaves. -/

/-- Looking at a byte a read would deliver is that read. -/
theorem peek_next {a : Word} {s : State} {r : Byte × State} (h : memRead a s = .next r) : peek a s = r := by
  rw [peek, h]

/-- Every fault sets the sticky bit (60_exceptions.md R264). -/
@[simp] theorem afterFault_faulted (f : Fault) (s : State) : (afterFault f s).faulted = true := by cases f <;> rfl

/-- DecodeFailure leaves the state of its one opcode read, with the sticky bit (40_cpu_cycle.md R111). -/
theorem afterFault_decodeFailure {b : Byte} {pc : Word} {s : State} {r : Byte × State}
    (h : memRead pc (begun s) = .next r) : afterFault (.decodeFailure b pc) s = { r.2 with faulted := true } := by
  rw [afterFault, peek_next h]

/-! `resolvedState`: the opcode latched, the mode resolved. -/

@[simp] theorem resolvedState_a (i : Instr) (s : State) : (resolvedState i s).a = s.a := rfl
@[simp] theorem resolvedState_x (i : Instr) (s : State) : (resolvedState i s).x = s.x := rfl
@[simp] theorem resolvedState_y (i : Instr) (s : State) : (resolvedState i s).y = s.y := rfl
@[simp] theorem resolvedState_sp (i : Instr) (s : State) : (resolvedState i s).sp = s.sp := rfl
@[simp] theorem resolvedState_pc (i : Instr) (s : State) :
    (resolvedState i s).pc = s.pc + BitVec.ofNat 16 i.length := rfl
@[simp] theorem resolvedState_p (i : Instr) (s : State) : (resolvedState i s).p = s.p := rfl
@[simp] theorem resolvedState_addressAbsolute (i : Instr) (s : State) :
    (resolvedState i s).addressAbsolute = effectiveAddress i.operand s := rfl
@[simp] theorem resolvedState_addressRelative (i : Instr) (s : State) :
    (resolvedState i s).addressRelative = relativeLatch i.operand s := rfl
@[simp] theorem resolvedState_opcode (i : Instr) (s : State) : (resolvedState i s).opcode = i.opcodeByte := rfl
@[simp] theorem resolvedState_fetched (i : Instr) (s : State) : (resolvedState i s).fetched = s.fetched := rfl
@[simp] theorem resolvedState_cycles (i : Instr) (s : State) : (resolvedState i s).cycles = s.cycles := rfl
@[simp] theorem resolvedState_fetchValid (i : Instr) (s : State) : (resolvedState i s).fetchValid = false := rfl
@[simp] theorem resolvedState_instrLatched (i : Instr) (s : State) : (resolvedState i s).instrLatched = true := rfl
@[simp] theorem resolvedState_faulted (i : Instr) (s : State) : (resolvedState i s).faulted = s.faulted := rfl
@[simp] theorem resolvedState_mem (i : Instr) (s : State) : (resolvedState i s).mem = s.mem := rfl
@[simp] theorem resolvedState_params (i : Instr) (s : State) : (resolvedState i s).params = s.params := rfl
@[simp] theorem resolvedState_inputs (i : Instr) (s : State) : (resolvedState i s).inputs = s.inputs := rfl
@[simp] theorem resolvedState_busOps (i : Instr) (s : State) :
    (resolvedState i s).busOps = s.busOps ++ resolverReads i.operand s := rfl
@[simp] theorem resolvedState_deviceReads (i : Instr) (s : State) :
    (resolvedState i s).deviceReads = s.deviceReads := rfl

/-! `fetchedState`: the operand read too. -/

@[simp] theorem fetchedState_a (i : Instr) (s : State) : (fetchedState i s).a = s.a := rfl
@[simp] theorem fetchedState_x (i : Instr) (s : State) : (fetchedState i s).x = s.x := rfl
@[simp] theorem fetchedState_y (i : Instr) (s : State) : (fetchedState i s).y = s.y := rfl
@[simp] theorem fetchedState_sp (i : Instr) (s : State) : (fetchedState i s).sp = s.sp := rfl
@[simp] theorem fetchedState_pc (i : Instr) (s : State) : (fetchedState i s).pc = s.pc + BitVec.ofNat 16 i.length := rfl
@[simp] theorem fetchedState_p (i : Instr) (s : State) : (fetchedState i s).p = s.p := rfl
@[simp] theorem fetchedState_addressAbsolute (i : Instr) (s : State) :
    (fetchedState i s).addressAbsolute = effectiveAddress i.operand s := rfl
@[simp] theorem fetchedState_addressRelative (i : Instr) (s : State) :
    (fetchedState i s).addressRelative = relativeLatch i.operand s := rfl
@[simp] theorem fetchedState_opcode (i : Instr) (s : State) : (fetchedState i s).opcode = i.opcodeByte := rfl
@[simp] theorem fetchedState_fetched (i : Instr) (s : State) :
    (fetchedState i s).fetched = operandByte i.operand s := rfl
@[simp] theorem fetchedState_cycles (i : Instr) (s : State) : (fetchedState i s).cycles = s.cycles := rfl
@[simp] theorem fetchedState_fetchValid (i : Instr) (s : State) : (fetchedState i s).fetchValid = true := rfl
@[simp] theorem fetchedState_instrLatched (i : Instr) (s : State) : (fetchedState i s).instrLatched = true := rfl
@[simp] theorem fetchedState_faulted (i : Instr) (s : State) : (fetchedState i s).faulted = s.faulted := rfl
@[simp] theorem fetchedState_mem (i : Instr) (s : State) : (fetchedState i s).mem = s.mem := rfl
@[simp] theorem fetchedState_params (i : Instr) (s : State) : (fetchedState i s).params = s.params := rfl
@[simp] theorem fetchedState_inputs (i : Instr) (s : State) : (fetchedState i s).inputs = s.inputs := rfl
@[simp] theorem fetchedState_busOps (i : Instr) (s : State) :
    (fetchedState i s).busOps = s.busOps ++ resolverReads i.operand s ++ [.read (effectiveAddress i.operand s) (operandByte i.operand s)] := rfl
@[simp] theorem fetchedState_deviceReads (i : Instr) (s : State) : (fetchedState i s).deviceReads = s.deviceReads := rfl

end Sys2Proof.Machine
end

