-- ==== Sys2Proof/Laws/PerInstr.lean ====
section
/-! SUPPORT. Statements about every instruction as syntax, one lemma per constructor. -/

/-- The opcode byte of an instruction selects its descriptor (30_encoding.md R83, R88). -/
def Sys2Proof.Laws.Descriptor.Statement (i : Sys2Proof.Instr) : Prop :=
  Sys2Proof.descriptorOf i.opcodeByte = some i.descriptor ∧ i.mode = i.operand.mode

theorem Sys2Proof.Laws.Descriptor.brk : Sys2Proof.Laws.Descriptor.Statement .brk :=
    ⟨(by decide : Sys2Proof.descriptorOf 0x00 = some ⟨.brk, .implied, 7⟩), rfl⟩

theorem Sys2Proof.Laws.Descriptor.oraIndX (d8 : Sys2Proof.Byte) :
    Sys2Proof.Laws.Descriptor.Statement (.oraIndX d8) :=
    ⟨(by decide : Sys2Proof.descriptorOf 0x01 = some ⟨.ora, .indirectX, 6⟩), rfl⟩

theorem Sys2Proof.Laws.Descriptor.sloIndX (d8 : Sys2Proof.Byte) :
    Sys2Proof.Laws.Descriptor.Statement (.sloIndX d8) :=
    ⟨(by decide : Sys2Proof.descriptorOf 0x03 = some ⟨.slo, .indirectX, 8⟩), rfl⟩

theorem Sys2Proof.Laws.Descriptor.ignZp04 (d8 : Sys2Proof.Byte) :
    Sys2Proof.Laws.Descriptor.Statement (.ignZp04 d8) :=
    ⟨(by decide : Sys2Proof.descriptorOf 0x04 = some ⟨.ign, .zeroPage, 3⟩), rfl⟩

theorem Sys2Proof.Laws.Descriptor.oraZp (d8 : Sys2Proof.Byte) :
    Sys2Proof.Laws.Descriptor.Statement (.oraZp d8) :=
    ⟨(by decide : Sys2Proof.descriptorOf 0x05 = some ⟨.ora, .zeroPage, 3⟩), rfl⟩

theorem Sys2Proof.Laws.Descriptor.aslZp (d8 : Sys2Proof.Byte) :
    Sys2Proof.Laws.Descriptor.Statement (.aslZp d8) :=
    ⟨(by decide : Sys2Proof.descriptorOf 0x06 = some ⟨.asl, .zeroPage, 5⟩), rfl⟩

theorem Sys2Proof.Laws.Descriptor.sloZp (d8 : Sys2Proof.Byte) :
    Sys2Proof.Laws.Descriptor.Statement (.sloZp d8) :=
    ⟨(by decide : Sys2Proof.descriptorOf 0x07 = some ⟨.slo, .zeroPage, 5⟩), rfl⟩

theorem Sys2Proof.Laws.Descriptor.php : Sys2Proof.Laws.Descriptor.Statement .php :=
    ⟨(by decide : Sys2Proof.descriptorOf 0x08 = some ⟨.php, .implied, 3⟩), rfl⟩

theorem Sys2Proof.Laws.Descriptor.oraImm (d8 : Sys2Proof.Byte) :
    Sys2Proof.Laws.Descriptor.Statement (.oraImm d8) :=
    ⟨(by decide : Sys2Proof.descriptorOf 0x09 = some ⟨.ora, .immediate, 2⟩), rfl⟩

theorem Sys2Proof.Laws.Descriptor.aslAcc : Sys2Proof.Laws.Descriptor.Statement .aslAcc :=
    ⟨(by decide : Sys2Proof.descriptorOf 0x0A = some ⟨.asl, .accumulator, 2⟩), rfl⟩

theorem Sys2Proof.Laws.Descriptor.ancImm0B (d8 : Sys2Proof.Byte) :
    Sys2Proof.Laws.Descriptor.Statement (.ancImm0B d8) :=
    ⟨(by decide : Sys2Proof.descriptorOf 0x0B = some ⟨.anc, .immediate, 2⟩), rfl⟩

theorem Sys2Proof.Laws.Descriptor.ignAbs (a16 : Sys2Proof.Word) :
    Sys2Proof.Laws.Descriptor.Statement (.ignAbs a16) :=
    ⟨(by decide : Sys2Proof.descriptorOf 0x0C = some ⟨.ign, .absolute, 4⟩), rfl⟩

theorem Sys2Proof.Laws.Descriptor.oraAbs (a16 : Sys2Proof.Word) :
    Sys2Proof.Laws.Descriptor.Statement (.oraAbs a16) :=
    ⟨(by decide : Sys2Proof.descriptorOf 0x0D = some ⟨.ora, .absolute, 4⟩), rfl⟩

theorem Sys2Proof.Laws.Descriptor.aslAbs (a16 : Sys2Proof.Word) :
    Sys2Proof.Laws.Descriptor.Statement (.aslAbs a16) :=
    ⟨(by decide : Sys2Proof.descriptorOf 0x0E = some ⟨.asl, .absolute, 6⟩), rfl⟩

theorem Sys2Proof.Laws.Descriptor.sloAbs (a16 : Sys2Proof.Word) :
    Sys2Proof.Laws.Descriptor.Statement (.sloAbs a16) :=
    ⟨(by decide : Sys2Proof.descriptorOf 0x0F = some ⟨.slo, .absolute, 6⟩), rfl⟩

theorem Sys2Proof.Laws.Descriptor.bpl (offset : Int) :
    Sys2Proof.Laws.Descriptor.Statement (.bpl offset) :=
    ⟨(by decide : Sys2Proof.descriptorOf 0x10 = some ⟨.bpl, .relative, 2⟩), rfl⟩

theorem Sys2Proof.Laws.Descriptor.oraIndY (d8 : Sys2Proof.Byte) :
    Sys2Proof.Laws.Descriptor.Statement (.oraIndY d8) :=
    ⟨(by decide : Sys2Proof.descriptorOf 0x11 = some ⟨.ora, .indirectY, 5⟩), rfl⟩

theorem Sys2Proof.Laws.Descriptor.sloIndY (d8 : Sys2Proof.Byte) :
    Sys2Proof.Laws.Descriptor.Statement (.sloIndY d8) :=
    ⟨(by decide : Sys2Proof.descriptorOf 0x13 = some ⟨.slo, .indirectY, 8⟩), rfl⟩

theorem Sys2Proof.Laws.Descriptor.ignZpX14 (d8 : Sys2Proof.Byte) :
    Sys2Proof.Laws.Descriptor.Statement (.ignZpX14 d8) :=
    ⟨(by decide : Sys2Proof.descriptorOf 0x14 = some ⟨.ign, .zeroPageX, 4⟩), rfl⟩

theorem Sys2Proof.Laws.Descriptor.oraZpX (d8 : Sys2Proof.Byte) :
    Sys2Proof.Laws.Descriptor.Statement (.oraZpX d8) :=
    ⟨(by decide : Sys2Proof.descriptorOf 0x15 = some ⟨.ora, .zeroPageX, 4⟩), rfl⟩

theorem Sys2Proof.Laws.Descriptor.aslZpX (d8 : Sys2Proof.Byte) :
    Sys2Proof.Laws.Descriptor.Statement (.aslZpX d8) :=
    ⟨(by decide : Sys2Proof.descriptorOf 0x16 = some ⟨.asl, .zeroPageX, 6⟩), rfl⟩

theorem Sys2Proof.Laws.Descriptor.sloZpX (d8 : Sys2Proof.Byte) :
    Sys2Proof.Laws.Descriptor.Statement (.sloZpX d8) :=
    ⟨(by decide : Sys2Proof.descriptorOf 0x17 = some ⟨.slo, .zeroPageX, 6⟩), rfl⟩

theorem Sys2Proof.Laws.Descriptor.clc : Sys2Proof.Laws.Descriptor.Statement .clc :=
    ⟨(by decide : Sys2Proof.descriptorOf 0x18 = some ⟨.clc, .implied, 2⟩), rfl⟩

theorem Sys2Proof.Laws.Descriptor.oraAbsY (a16 : Sys2Proof.Word) :
    Sys2Proof.Laws.Descriptor.Statement (.oraAbsY a16) :=
    ⟨(by decide : Sys2Proof.descriptorOf 0x19 = some ⟨.ora, .absoluteY, 4⟩), rfl⟩

theorem Sys2Proof.Laws.Descriptor.sloAbsY (a16 : Sys2Proof.Word) :
    Sys2Proof.Laws.Descriptor.Statement (.sloAbsY a16) :=
    ⟨(by decide : Sys2Proof.descriptorOf 0x1B = some ⟨.slo, .absoluteY, 7⟩), rfl⟩

theorem Sys2Proof.Laws.Descriptor.ignAbsX1C (a16 : Sys2Proof.Word) :
    Sys2Proof.Laws.Descriptor.Statement (.ignAbsX1C a16) :=
    ⟨(by decide : Sys2Proof.descriptorOf 0x1C = some ⟨.ign, .absoluteX, 4⟩), rfl⟩

theorem Sys2Proof.Laws.Descriptor.oraAbsX (a16 : Sys2Proof.Word) :
    Sys2Proof.Laws.Descriptor.Statement (.oraAbsX a16) :=
    ⟨(by decide : Sys2Proof.descriptorOf 0x1D = some ⟨.ora, .absoluteX, 4⟩), rfl⟩

theorem Sys2Proof.Laws.Descriptor.aslAbsX (a16 : Sys2Proof.Word) :
    Sys2Proof.Laws.Descriptor.Statement (.aslAbsX a16) :=
    ⟨(by decide : Sys2Proof.descriptorOf 0x1E = some ⟨.asl, .absoluteX, 7⟩), rfl⟩

theorem Sys2Proof.Laws.Descriptor.sloAbsX (a16 : Sys2Proof.Word) :
    Sys2Proof.Laws.Descriptor.Statement (.sloAbsX a16) :=
    ⟨(by decide : Sys2Proof.descriptorOf 0x1F = some ⟨.slo, .absoluteX, 7⟩), rfl⟩

theorem Sys2Proof.Laws.Descriptor.jsrAbs (a16 : Sys2Proof.Word) :
    Sys2Proof.Laws.Descriptor.Statement (.jsrAbs a16) :=
    ⟨(by decide : Sys2Proof.descriptorOf 0x20 = some ⟨.jsr, .absolute, 6⟩), rfl⟩

theorem Sys2Proof.Laws.Descriptor.andIndX (d8 : Sys2Proof.Byte) :
    Sys2Proof.Laws.Descriptor.Statement (.andIndX d8) :=
    ⟨(by decide : Sys2Proof.descriptorOf 0x21 = some ⟨.and, .indirectX, 6⟩), rfl⟩

theorem Sys2Proof.Laws.Descriptor.rlaIndX (d8 : Sys2Proof.Byte) :
    Sys2Proof.Laws.Descriptor.Statement (.rlaIndX d8) :=
    ⟨(by decide : Sys2Proof.descriptorOf 0x23 = some ⟨.rla, .indirectX, 8⟩), rfl⟩

theorem Sys2Proof.Laws.Descriptor.bitZp (d8 : Sys2Proof.Byte) :
    Sys2Proof.Laws.Descriptor.Statement (.bitZp d8) :=
    ⟨(by decide : Sys2Proof.descriptorOf 0x24 = some ⟨.bit, .zeroPage, 3⟩), rfl⟩

theorem Sys2Proof.Laws.Descriptor.andZp (d8 : Sys2Proof.Byte) :
    Sys2Proof.Laws.Descriptor.Statement (.andZp d8) :=
    ⟨(by decide : Sys2Proof.descriptorOf 0x25 = some ⟨.and, .zeroPage, 3⟩), rfl⟩

theorem Sys2Proof.Laws.Descriptor.rolZp (d8 : Sys2Proof.Byte) :
    Sys2Proof.Laws.Descriptor.Statement (.rolZp d8) :=
    ⟨(by decide : Sys2Proof.descriptorOf 0x26 = some ⟨.rol, .zeroPage, 5⟩), rfl⟩

theorem Sys2Proof.Laws.Descriptor.rlaZp (d8 : Sys2Proof.Byte) :
    Sys2Proof.Laws.Descriptor.Statement (.rlaZp d8) :=
    ⟨(by decide : Sys2Proof.descriptorOf 0x27 = some ⟨.rla, .zeroPage, 5⟩), rfl⟩

theorem Sys2Proof.Laws.Descriptor.plp : Sys2Proof.Laws.Descriptor.Statement .plp :=
    ⟨(by decide : Sys2Proof.descriptorOf 0x28 = some ⟨.plp, .implied, 4⟩), rfl⟩

theorem Sys2Proof.Laws.Descriptor.andImm (d8 : Sys2Proof.Byte) :
    Sys2Proof.Laws.Descriptor.Statement (.andImm d8) :=
    ⟨(by decide : Sys2Proof.descriptorOf 0x29 = some ⟨.and, .immediate, 2⟩), rfl⟩

theorem Sys2Proof.Laws.Descriptor.rolAcc : Sys2Proof.Laws.Descriptor.Statement .rolAcc :=
    ⟨(by decide : Sys2Proof.descriptorOf 0x2A = some ⟨.rol, .accumulator, 2⟩), rfl⟩

theorem Sys2Proof.Laws.Descriptor.ancImm2B (d8 : Sys2Proof.Byte) :
    Sys2Proof.Laws.Descriptor.Statement (.ancImm2B d8) :=
    ⟨(by decide : Sys2Proof.descriptorOf 0x2B = some ⟨.anc, .immediate, 2⟩), rfl⟩

theorem Sys2Proof.Laws.Descriptor.bitAbs (a16 : Sys2Proof.Word) :
    Sys2Proof.Laws.Descriptor.Statement (.bitAbs a16) :=
    ⟨(by decide : Sys2Proof.descriptorOf 0x2C = some ⟨.bit, .absolute, 4⟩), rfl⟩

theorem Sys2Proof.Laws.Descriptor.andAbs (a16 : Sys2Proof.Word) :
    Sys2Proof.Laws.Descriptor.Statement (.andAbs a16) :=
    ⟨(by decide : Sys2Proof.descriptorOf 0x2D = some ⟨.and, .absolute, 4⟩), rfl⟩

theorem Sys2Proof.Laws.Descriptor.rolAbs (a16 : Sys2Proof.Word) :
    Sys2Proof.Laws.Descriptor.Statement (.rolAbs a16) :=
    ⟨(by decide : Sys2Proof.descriptorOf 0x2E = some ⟨.rol, .absolute, 6⟩), rfl⟩

theorem Sys2Proof.Laws.Descriptor.rlaAbs (a16 : Sys2Proof.Word) :
    Sys2Proof.Laws.Descriptor.Statement (.rlaAbs a16) :=
    ⟨(by decide : Sys2Proof.descriptorOf 0x2F = some ⟨.rla, .absolute, 6⟩), rfl⟩

theorem Sys2Proof.Laws.Descriptor.bmi (offset : Int) :
    Sys2Proof.Laws.Descriptor.Statement (.bmi offset) :=
    ⟨(by decide : Sys2Proof.descriptorOf 0x30 = some ⟨.bmi, .relative, 2⟩), rfl⟩

theorem Sys2Proof.Laws.Descriptor.andIndY (d8 : Sys2Proof.Byte) :
    Sys2Proof.Laws.Descriptor.Statement (.andIndY d8) :=
    ⟨(by decide : Sys2Proof.descriptorOf 0x31 = some ⟨.and, .indirectY, 5⟩), rfl⟩

theorem Sys2Proof.Laws.Descriptor.rlaIndY (d8 : Sys2Proof.Byte) :
    Sys2Proof.Laws.Descriptor.Statement (.rlaIndY d8) :=
    ⟨(by decide : Sys2Proof.descriptorOf 0x33 = some ⟨.rla, .indirectY, 8⟩), rfl⟩

theorem Sys2Proof.Laws.Descriptor.ignZpX34 (d8 : Sys2Proof.Byte) :
    Sys2Proof.Laws.Descriptor.Statement (.ignZpX34 d8) :=
    ⟨(by decide : Sys2Proof.descriptorOf 0x34 = some ⟨.ign, .zeroPageX, 4⟩), rfl⟩

theorem Sys2Proof.Laws.Descriptor.andZpX (d8 : Sys2Proof.Byte) :
    Sys2Proof.Laws.Descriptor.Statement (.andZpX d8) :=
    ⟨(by decide : Sys2Proof.descriptorOf 0x35 = some ⟨.and, .zeroPageX, 4⟩), rfl⟩

theorem Sys2Proof.Laws.Descriptor.rolZpX (d8 : Sys2Proof.Byte) :
    Sys2Proof.Laws.Descriptor.Statement (.rolZpX d8) :=
    ⟨(by decide : Sys2Proof.descriptorOf 0x36 = some ⟨.rol, .zeroPageX, 6⟩), rfl⟩

theorem Sys2Proof.Laws.Descriptor.rlaZpX (d8 : Sys2Proof.Byte) :
    Sys2Proof.Laws.Descriptor.Statement (.rlaZpX d8) :=
    ⟨(by decide : Sys2Proof.descriptorOf 0x37 = some ⟨.rla, .zeroPageX, 6⟩), rfl⟩

theorem Sys2Proof.Laws.Descriptor.sec : Sys2Proof.Laws.Descriptor.Statement .sec :=
    ⟨(by decide : Sys2Proof.descriptorOf 0x38 = some ⟨.sec, .implied, 2⟩), rfl⟩

theorem Sys2Proof.Laws.Descriptor.andAbsY (a16 : Sys2Proof.Word) :
    Sys2Proof.Laws.Descriptor.Statement (.andAbsY a16) :=
    ⟨(by decide : Sys2Proof.descriptorOf 0x39 = some ⟨.and, .absoluteY, 4⟩), rfl⟩

theorem Sys2Proof.Laws.Descriptor.rlaAbsY (a16 : Sys2Proof.Word) :
    Sys2Proof.Laws.Descriptor.Statement (.rlaAbsY a16) :=
    ⟨(by decide : Sys2Proof.descriptorOf 0x3B = some ⟨.rla, .absoluteY, 7⟩), rfl⟩

theorem Sys2Proof.Laws.Descriptor.ignAbsX3C (a16 : Sys2Proof.Word) :
    Sys2Proof.Laws.Descriptor.Statement (.ignAbsX3C a16) :=
    ⟨(by decide : Sys2Proof.descriptorOf 0x3C = some ⟨.ign, .absoluteX, 4⟩), rfl⟩

theorem Sys2Proof.Laws.Descriptor.andAbsX (a16 : Sys2Proof.Word) :
    Sys2Proof.Laws.Descriptor.Statement (.andAbsX a16) :=
    ⟨(by decide : Sys2Proof.descriptorOf 0x3D = some ⟨.and, .absoluteX, 4⟩), rfl⟩

theorem Sys2Proof.Laws.Descriptor.rolAbsX (a16 : Sys2Proof.Word) :
    Sys2Proof.Laws.Descriptor.Statement (.rolAbsX a16) :=
    ⟨(by decide : Sys2Proof.descriptorOf 0x3E = some ⟨.rol, .absoluteX, 7⟩), rfl⟩

theorem Sys2Proof.Laws.Descriptor.rlaAbsX (a16 : Sys2Proof.Word) :
    Sys2Proof.Laws.Descriptor.Statement (.rlaAbsX a16) :=
    ⟨(by decide : Sys2Proof.descriptorOf 0x3F = some ⟨.rla, .absoluteX, 7⟩), rfl⟩

theorem Sys2Proof.Laws.Descriptor.rti : Sys2Proof.Laws.Descriptor.Statement .rti :=
    ⟨(by decide : Sys2Proof.descriptorOf 0x40 = some ⟨.rti, .implied, 6⟩), rfl⟩

theorem Sys2Proof.Laws.Descriptor.eorIndX (d8 : Sys2Proof.Byte) :
    Sys2Proof.Laws.Descriptor.Statement (.eorIndX d8) :=
    ⟨(by decide : Sys2Proof.descriptorOf 0x41 = some ⟨.eor, .indirectX, 6⟩), rfl⟩

theorem Sys2Proof.Laws.Descriptor.sreIndX (d8 : Sys2Proof.Byte) :
    Sys2Proof.Laws.Descriptor.Statement (.sreIndX d8) :=
    ⟨(by decide : Sys2Proof.descriptorOf 0x43 = some ⟨.sre, .indirectX, 8⟩), rfl⟩

theorem Sys2Proof.Laws.Descriptor.ignZp44 (d8 : Sys2Proof.Byte) :
    Sys2Proof.Laws.Descriptor.Statement (.ignZp44 d8) :=
    ⟨(by decide : Sys2Proof.descriptorOf 0x44 = some ⟨.ign, .zeroPage, 3⟩), rfl⟩

theorem Sys2Proof.Laws.Descriptor.eorZp (d8 : Sys2Proof.Byte) :
    Sys2Proof.Laws.Descriptor.Statement (.eorZp d8) :=
    ⟨(by decide : Sys2Proof.descriptorOf 0x45 = some ⟨.eor, .zeroPage, 3⟩), rfl⟩

theorem Sys2Proof.Laws.Descriptor.lsrZp (d8 : Sys2Proof.Byte) :
    Sys2Proof.Laws.Descriptor.Statement (.lsrZp d8) :=
    ⟨(by decide : Sys2Proof.descriptorOf 0x46 = some ⟨.lsr, .zeroPage, 5⟩), rfl⟩

theorem Sys2Proof.Laws.Descriptor.sreZp (d8 : Sys2Proof.Byte) :
    Sys2Proof.Laws.Descriptor.Statement (.sreZp d8) :=
    ⟨(by decide : Sys2Proof.descriptorOf 0x47 = some ⟨.sre, .zeroPage, 5⟩), rfl⟩

theorem Sys2Proof.Laws.Descriptor.pha : Sys2Proof.Laws.Descriptor.Statement .pha :=
    ⟨(by decide : Sys2Proof.descriptorOf 0x48 = some ⟨.pha, .implied, 3⟩), rfl⟩

theorem Sys2Proof.Laws.Descriptor.eorImm (d8 : Sys2Proof.Byte) :
    Sys2Proof.Laws.Descriptor.Statement (.eorImm d8) :=
    ⟨(by decide : Sys2Proof.descriptorOf 0x49 = some ⟨.eor, .immediate, 2⟩), rfl⟩

theorem Sys2Proof.Laws.Descriptor.lsrAcc : Sys2Proof.Laws.Descriptor.Statement .lsrAcc :=
    ⟨(by decide : Sys2Proof.descriptorOf 0x4A = some ⟨.lsr, .accumulator, 2⟩), rfl⟩

theorem Sys2Proof.Laws.Descriptor.alrImm (d8 : Sys2Proof.Byte) :
    Sys2Proof.Laws.Descriptor.Statement (.alrImm d8) :=
    ⟨(by decide : Sys2Proof.descriptorOf 0x4B = some ⟨.alr, .immediate, 2⟩), rfl⟩

theorem Sys2Proof.Laws.Descriptor.jmpAbs (a16 : Sys2Proof.Word) :
    Sys2Proof.Laws.Descriptor.Statement (.jmpAbs a16) :=
    ⟨(by decide : Sys2Proof.descriptorOf 0x4C = some ⟨.jmp, .absolute, 3⟩), rfl⟩

theorem Sys2Proof.Laws.Descriptor.eorAbs (a16 : Sys2Proof.Word) :
    Sys2Proof.Laws.Descriptor.Statement (.eorAbs a16) :=
    ⟨(by decide : Sys2Proof.descriptorOf 0x4D = some ⟨.eor, .absolute, 4⟩), rfl⟩

theorem Sys2Proof.Laws.Descriptor.lsrAbs (a16 : Sys2Proof.Word) :
    Sys2Proof.Laws.Descriptor.Statement (.lsrAbs a16) :=
    ⟨(by decide : Sys2Proof.descriptorOf 0x4E = some ⟨.lsr, .absolute, 6⟩), rfl⟩

theorem Sys2Proof.Laws.Descriptor.sreAbs (a16 : Sys2Proof.Word) :
    Sys2Proof.Laws.Descriptor.Statement (.sreAbs a16) :=
    ⟨(by decide : Sys2Proof.descriptorOf 0x4F = some ⟨.sre, .absolute, 6⟩), rfl⟩

theorem Sys2Proof.Laws.Descriptor.bvc (offset : Int) :
    Sys2Proof.Laws.Descriptor.Statement (.bvc offset) :=
    ⟨(by decide : Sys2Proof.descriptorOf 0x50 = some ⟨.bvc, .relative, 2⟩), rfl⟩

theorem Sys2Proof.Laws.Descriptor.eorIndY (d8 : Sys2Proof.Byte) :
    Sys2Proof.Laws.Descriptor.Statement (.eorIndY d8) :=
    ⟨(by decide : Sys2Proof.descriptorOf 0x51 = some ⟨.eor, .indirectY, 5⟩), rfl⟩

theorem Sys2Proof.Laws.Descriptor.sreIndY (d8 : Sys2Proof.Byte) :
    Sys2Proof.Laws.Descriptor.Statement (.sreIndY d8) :=
    ⟨(by decide : Sys2Proof.descriptorOf 0x53 = some ⟨.sre, .indirectY, 8⟩), rfl⟩

theorem Sys2Proof.Laws.Descriptor.ignZpX54 (d8 : Sys2Proof.Byte) :
    Sys2Proof.Laws.Descriptor.Statement (.ignZpX54 d8) :=
    ⟨(by decide : Sys2Proof.descriptorOf 0x54 = some ⟨.ign, .zeroPageX, 4⟩), rfl⟩

theorem Sys2Proof.Laws.Descriptor.eorZpX (d8 : Sys2Proof.Byte) :
    Sys2Proof.Laws.Descriptor.Statement (.eorZpX d8) :=
    ⟨(by decide : Sys2Proof.descriptorOf 0x55 = some ⟨.eor, .zeroPageX, 4⟩), rfl⟩

theorem Sys2Proof.Laws.Descriptor.lsrZpX (d8 : Sys2Proof.Byte) :
    Sys2Proof.Laws.Descriptor.Statement (.lsrZpX d8) :=
    ⟨(by decide : Sys2Proof.descriptorOf 0x56 = some ⟨.lsr, .zeroPageX, 6⟩), rfl⟩

theorem Sys2Proof.Laws.Descriptor.sreZpX (d8 : Sys2Proof.Byte) :
    Sys2Proof.Laws.Descriptor.Statement (.sreZpX d8) :=
    ⟨(by decide : Sys2Proof.descriptorOf 0x57 = some ⟨.sre, .zeroPageX, 6⟩), rfl⟩

theorem Sys2Proof.Laws.Descriptor.cli : Sys2Proof.Laws.Descriptor.Statement .cli :=
    ⟨(by decide : Sys2Proof.descriptorOf 0x58 = some ⟨.cli, .implied, 2⟩), rfl⟩

theorem Sys2Proof.Laws.Descriptor.eorAbsY (a16 : Sys2Proof.Word) :
    Sys2Proof.Laws.Descriptor.Statement (.eorAbsY a16) :=
    ⟨(by decide : Sys2Proof.descriptorOf 0x59 = some ⟨.eor, .absoluteY, 4⟩), rfl⟩

theorem Sys2Proof.Laws.Descriptor.sreAbsY (a16 : Sys2Proof.Word) :
    Sys2Proof.Laws.Descriptor.Statement (.sreAbsY a16) :=
    ⟨(by decide : Sys2Proof.descriptorOf 0x5B = some ⟨.sre, .absoluteY, 7⟩), rfl⟩

theorem Sys2Proof.Laws.Descriptor.ignAbsX5C (a16 : Sys2Proof.Word) :
    Sys2Proof.Laws.Descriptor.Statement (.ignAbsX5C a16) :=
    ⟨(by decide : Sys2Proof.descriptorOf 0x5C = some ⟨.ign, .absoluteX, 4⟩), rfl⟩

theorem Sys2Proof.Laws.Descriptor.eorAbsX (a16 : Sys2Proof.Word) :
    Sys2Proof.Laws.Descriptor.Statement (.eorAbsX a16) :=
    ⟨(by decide : Sys2Proof.descriptorOf 0x5D = some ⟨.eor, .absoluteX, 4⟩), rfl⟩

theorem Sys2Proof.Laws.Descriptor.lsrAbsX (a16 : Sys2Proof.Word) :
    Sys2Proof.Laws.Descriptor.Statement (.lsrAbsX a16) :=
    ⟨(by decide : Sys2Proof.descriptorOf 0x5E = some ⟨.lsr, .absoluteX, 7⟩), rfl⟩

theorem Sys2Proof.Laws.Descriptor.sreAbsX (a16 : Sys2Proof.Word) :
    Sys2Proof.Laws.Descriptor.Statement (.sreAbsX a16) :=
    ⟨(by decide : Sys2Proof.descriptorOf 0x5F = some ⟨.sre, .absoluteX, 7⟩), rfl⟩

theorem Sys2Proof.Laws.Descriptor.rts : Sys2Proof.Laws.Descriptor.Statement .rts :=
    ⟨(by decide : Sys2Proof.descriptorOf 0x60 = some ⟨.rts, .implied, 6⟩), rfl⟩

theorem Sys2Proof.Laws.Descriptor.adcIndX (d8 : Sys2Proof.Byte) :
    Sys2Proof.Laws.Descriptor.Statement (.adcIndX d8) :=
    ⟨(by decide : Sys2Proof.descriptorOf 0x61 = some ⟨.adc, .indirectX, 6⟩), rfl⟩

theorem Sys2Proof.Laws.Descriptor.rraIndX (d8 : Sys2Proof.Byte) :
    Sys2Proof.Laws.Descriptor.Statement (.rraIndX d8) :=
    ⟨(by decide : Sys2Proof.descriptorOf 0x63 = some ⟨.rra, .indirectX, 8⟩), rfl⟩

theorem Sys2Proof.Laws.Descriptor.ignZp64 (d8 : Sys2Proof.Byte) :
    Sys2Proof.Laws.Descriptor.Statement (.ignZp64 d8) :=
    ⟨(by decide : Sys2Proof.descriptorOf 0x64 = some ⟨.ign, .zeroPage, 3⟩), rfl⟩

theorem Sys2Proof.Laws.Descriptor.adcZp (d8 : Sys2Proof.Byte) :
    Sys2Proof.Laws.Descriptor.Statement (.adcZp d8) :=
    ⟨(by decide : Sys2Proof.descriptorOf 0x65 = some ⟨.adc, .zeroPage, 3⟩), rfl⟩

theorem Sys2Proof.Laws.Descriptor.rorZp (d8 : Sys2Proof.Byte) :
    Sys2Proof.Laws.Descriptor.Statement (.rorZp d8) :=
    ⟨(by decide : Sys2Proof.descriptorOf 0x66 = some ⟨.ror, .zeroPage, 5⟩), rfl⟩

theorem Sys2Proof.Laws.Descriptor.rraZp (d8 : Sys2Proof.Byte) :
    Sys2Proof.Laws.Descriptor.Statement (.rraZp d8) :=
    ⟨(by decide : Sys2Proof.descriptorOf 0x67 = some ⟨.rra, .zeroPage, 5⟩), rfl⟩

theorem Sys2Proof.Laws.Descriptor.pla : Sys2Proof.Laws.Descriptor.Statement .pla :=
    ⟨(by decide : Sys2Proof.descriptorOf 0x68 = some ⟨.pla, .implied, 4⟩), rfl⟩

theorem Sys2Proof.Laws.Descriptor.adcImm (d8 : Sys2Proof.Byte) :
    Sys2Proof.Laws.Descriptor.Statement (.adcImm d8) :=
    ⟨(by decide : Sys2Proof.descriptorOf 0x69 = some ⟨.adc, .immediate, 2⟩), rfl⟩

theorem Sys2Proof.Laws.Descriptor.rorAcc : Sys2Proof.Laws.Descriptor.Statement .rorAcc :=
    ⟨(by decide : Sys2Proof.descriptorOf 0x6A = some ⟨.ror, .accumulator, 2⟩), rfl⟩

theorem Sys2Proof.Laws.Descriptor.arrImm (d8 : Sys2Proof.Byte) :
    Sys2Proof.Laws.Descriptor.Statement (.arrImm d8) :=
    ⟨(by decide : Sys2Proof.descriptorOf 0x6B = some ⟨.arr, .immediate, 2⟩), rfl⟩

theorem Sys2Proof.Laws.Descriptor.jmpInd (a16 : Sys2Proof.Word) :
    Sys2Proof.Laws.Descriptor.Statement (.jmpInd a16) :=
    ⟨(by decide : Sys2Proof.descriptorOf 0x6C = some ⟨.jmp, .indirect, 5⟩), rfl⟩

theorem Sys2Proof.Laws.Descriptor.adcAbs (a16 : Sys2Proof.Word) :
    Sys2Proof.Laws.Descriptor.Statement (.adcAbs a16) :=
    ⟨(by decide : Sys2Proof.descriptorOf 0x6D = some ⟨.adc, .absolute, 4⟩), rfl⟩

theorem Sys2Proof.Laws.Descriptor.rorAbs (a16 : Sys2Proof.Word) :
    Sys2Proof.Laws.Descriptor.Statement (.rorAbs a16) :=
    ⟨(by decide : Sys2Proof.descriptorOf 0x6E = some ⟨.ror, .absolute, 6⟩), rfl⟩

theorem Sys2Proof.Laws.Descriptor.rraAbs (a16 : Sys2Proof.Word) :
    Sys2Proof.Laws.Descriptor.Statement (.rraAbs a16) :=
    ⟨(by decide : Sys2Proof.descriptorOf 0x6F = some ⟨.rra, .absolute, 6⟩), rfl⟩

theorem Sys2Proof.Laws.Descriptor.bvs (offset : Int) :
    Sys2Proof.Laws.Descriptor.Statement (.bvs offset) :=
    ⟨(by decide : Sys2Proof.descriptorOf 0x70 = some ⟨.bvs, .relative, 2⟩), rfl⟩

theorem Sys2Proof.Laws.Descriptor.adcIndY (d8 : Sys2Proof.Byte) :
    Sys2Proof.Laws.Descriptor.Statement (.adcIndY d8) :=
    ⟨(by decide : Sys2Proof.descriptorOf 0x71 = some ⟨.adc, .indirectY, 5⟩), rfl⟩

theorem Sys2Proof.Laws.Descriptor.rraIndY (d8 : Sys2Proof.Byte) :
    Sys2Proof.Laws.Descriptor.Statement (.rraIndY d8) :=
    ⟨(by decide : Sys2Proof.descriptorOf 0x73 = some ⟨.rra, .indirectY, 8⟩), rfl⟩

theorem Sys2Proof.Laws.Descriptor.ignZpX74 (d8 : Sys2Proof.Byte) :
    Sys2Proof.Laws.Descriptor.Statement (.ignZpX74 d8) :=
    ⟨(by decide : Sys2Proof.descriptorOf 0x74 = some ⟨.ign, .zeroPageX, 4⟩), rfl⟩

theorem Sys2Proof.Laws.Descriptor.adcZpX (d8 : Sys2Proof.Byte) :
    Sys2Proof.Laws.Descriptor.Statement (.adcZpX d8) :=
    ⟨(by decide : Sys2Proof.descriptorOf 0x75 = some ⟨.adc, .zeroPageX, 4⟩), rfl⟩

theorem Sys2Proof.Laws.Descriptor.rorZpX (d8 : Sys2Proof.Byte) :
    Sys2Proof.Laws.Descriptor.Statement (.rorZpX d8) :=
    ⟨(by decide : Sys2Proof.descriptorOf 0x76 = some ⟨.ror, .zeroPageX, 6⟩), rfl⟩

theorem Sys2Proof.Laws.Descriptor.rraZpX (d8 : Sys2Proof.Byte) :
    Sys2Proof.Laws.Descriptor.Statement (.rraZpX d8) :=
    ⟨(by decide : Sys2Proof.descriptorOf 0x77 = some ⟨.rra, .zeroPageX, 6⟩), rfl⟩

theorem Sys2Proof.Laws.Descriptor.sei : Sys2Proof.Laws.Descriptor.Statement .sei :=
    ⟨(by decide : Sys2Proof.descriptorOf 0x78 = some ⟨.sei, .implied, 2⟩), rfl⟩

theorem Sys2Proof.Laws.Descriptor.adcAbsY (a16 : Sys2Proof.Word) :
    Sys2Proof.Laws.Descriptor.Statement (.adcAbsY a16) :=
    ⟨(by decide : Sys2Proof.descriptorOf 0x79 = some ⟨.adc, .absoluteY, 4⟩), rfl⟩

theorem Sys2Proof.Laws.Descriptor.rraAbsY (a16 : Sys2Proof.Word) :
    Sys2Proof.Laws.Descriptor.Statement (.rraAbsY a16) :=
    ⟨(by decide : Sys2Proof.descriptorOf 0x7B = some ⟨.rra, .absoluteY, 7⟩), rfl⟩

theorem Sys2Proof.Laws.Descriptor.ignAbsX7C (a16 : Sys2Proof.Word) :
    Sys2Proof.Laws.Descriptor.Statement (.ignAbsX7C a16) :=
    ⟨(by decide : Sys2Proof.descriptorOf 0x7C = some ⟨.ign, .absoluteX, 4⟩), rfl⟩

theorem Sys2Proof.Laws.Descriptor.adcAbsX (a16 : Sys2Proof.Word) :
    Sys2Proof.Laws.Descriptor.Statement (.adcAbsX a16) :=
    ⟨(by decide : Sys2Proof.descriptorOf 0x7D = some ⟨.adc, .absoluteX, 4⟩), rfl⟩

theorem Sys2Proof.Laws.Descriptor.rorAbsX (a16 : Sys2Proof.Word) :
    Sys2Proof.Laws.Descriptor.Statement (.rorAbsX a16) :=
    ⟨(by decide : Sys2Proof.descriptorOf 0x7E = some ⟨.ror, .absoluteX, 7⟩), rfl⟩

theorem Sys2Proof.Laws.Descriptor.rraAbsX (a16 : Sys2Proof.Word) :
    Sys2Proof.Laws.Descriptor.Statement (.rraAbsX a16) :=
    ⟨(by decide : Sys2Proof.descriptorOf 0x7F = some ⟨.rra, .absoluteX, 7⟩), rfl⟩

theorem Sys2Proof.Laws.Descriptor.skbImm80 (d8 : Sys2Proof.Byte) :
    Sys2Proof.Laws.Descriptor.Statement (.skbImm80 d8) :=
    ⟨(by decide : Sys2Proof.descriptorOf 0x80 = some ⟨.skb, .immediate, 2⟩), rfl⟩

theorem Sys2Proof.Laws.Descriptor.staIndX (d8 : Sys2Proof.Byte) :
    Sys2Proof.Laws.Descriptor.Statement (.staIndX d8) :=
    ⟨(by decide : Sys2Proof.descriptorOf 0x81 = some ⟨.sta, .indirectX, 6⟩), rfl⟩

theorem Sys2Proof.Laws.Descriptor.skbImm82 (d8 : Sys2Proof.Byte) :
    Sys2Proof.Laws.Descriptor.Statement (.skbImm82 d8) :=
    ⟨(by decide : Sys2Proof.descriptorOf 0x82 = some ⟨.skb, .immediate, 2⟩), rfl⟩

theorem Sys2Proof.Laws.Descriptor.saxIndX (d8 : Sys2Proof.Byte) :
    Sys2Proof.Laws.Descriptor.Statement (.saxIndX d8) :=
    ⟨(by decide : Sys2Proof.descriptorOf 0x83 = some ⟨.sax, .indirectX, 6⟩), rfl⟩

theorem Sys2Proof.Laws.Descriptor.styZp (d8 : Sys2Proof.Byte) :
    Sys2Proof.Laws.Descriptor.Statement (.styZp d8) :=
    ⟨(by decide : Sys2Proof.descriptorOf 0x84 = some ⟨.sty, .zeroPage, 3⟩), rfl⟩

theorem Sys2Proof.Laws.Descriptor.staZp (d8 : Sys2Proof.Byte) :
    Sys2Proof.Laws.Descriptor.Statement (.staZp d8) :=
    ⟨(by decide : Sys2Proof.descriptorOf 0x85 = some ⟨.sta, .zeroPage, 3⟩), rfl⟩

theorem Sys2Proof.Laws.Descriptor.stxZp (d8 : Sys2Proof.Byte) :
    Sys2Proof.Laws.Descriptor.Statement (.stxZp d8) :=
    ⟨(by decide : Sys2Proof.descriptorOf 0x86 = some ⟨.stx, .zeroPage, 3⟩), rfl⟩

theorem Sys2Proof.Laws.Descriptor.saxZp (d8 : Sys2Proof.Byte) :
    Sys2Proof.Laws.Descriptor.Statement (.saxZp d8) :=
    ⟨(by decide : Sys2Proof.descriptorOf 0x87 = some ⟨.sax, .zeroPage, 3⟩), rfl⟩

theorem Sys2Proof.Laws.Descriptor.dey : Sys2Proof.Laws.Descriptor.Statement .dey :=
    ⟨(by decide : Sys2Proof.descriptorOf 0x88 = some ⟨.dey, .implied, 2⟩), rfl⟩

theorem Sys2Proof.Laws.Descriptor.skbImm89 (d8 : Sys2Proof.Byte) :
    Sys2Proof.Laws.Descriptor.Statement (.skbImm89 d8) :=
    ⟨(by decide : Sys2Proof.descriptorOf 0x89 = some ⟨.skb, .immediate, 2⟩), rfl⟩

theorem Sys2Proof.Laws.Descriptor.txa : Sys2Proof.Laws.Descriptor.Statement .txa :=
    ⟨(by decide : Sys2Proof.descriptorOf 0x8A = some ⟨.txa, .implied, 2⟩), rfl⟩

theorem Sys2Proof.Laws.Descriptor.styAbs (a16 : Sys2Proof.Word) :
    Sys2Proof.Laws.Descriptor.Statement (.styAbs a16) :=
    ⟨(by decide : Sys2Proof.descriptorOf 0x8C = some ⟨.sty, .absolute, 4⟩), rfl⟩

theorem Sys2Proof.Laws.Descriptor.staAbs (a16 : Sys2Proof.Word) :
    Sys2Proof.Laws.Descriptor.Statement (.staAbs a16) :=
    ⟨(by decide : Sys2Proof.descriptorOf 0x8D = some ⟨.sta, .absolute, 4⟩), rfl⟩

theorem Sys2Proof.Laws.Descriptor.stxAbs (a16 : Sys2Proof.Word) :
    Sys2Proof.Laws.Descriptor.Statement (.stxAbs a16) :=
    ⟨(by decide : Sys2Proof.descriptorOf 0x8E = some ⟨.stx, .absolute, 4⟩), rfl⟩

theorem Sys2Proof.Laws.Descriptor.saxAbs (a16 : Sys2Proof.Word) :
    Sys2Proof.Laws.Descriptor.Statement (.saxAbs a16) :=
    ⟨(by decide : Sys2Proof.descriptorOf 0x8F = some ⟨.sax, .absolute, 4⟩), rfl⟩

theorem Sys2Proof.Laws.Descriptor.bcc (offset : Int) :
    Sys2Proof.Laws.Descriptor.Statement (.bcc offset) :=
    ⟨(by decide : Sys2Proof.descriptorOf 0x90 = some ⟨.bcc, .relative, 2⟩), rfl⟩

theorem Sys2Proof.Laws.Descriptor.staIndY (d8 : Sys2Proof.Byte) :
    Sys2Proof.Laws.Descriptor.Statement (.staIndY d8) :=
    ⟨(by decide : Sys2Proof.descriptorOf 0x91 = some ⟨.sta, .indirectY, 6⟩), rfl⟩

theorem Sys2Proof.Laws.Descriptor.styZpX (d8 : Sys2Proof.Byte) :
    Sys2Proof.Laws.Descriptor.Statement (.styZpX d8) :=
    ⟨(by decide : Sys2Proof.descriptorOf 0x94 = some ⟨.sty, .zeroPageX, 4⟩), rfl⟩

theorem Sys2Proof.Laws.Descriptor.staZpX (d8 : Sys2Proof.Byte) :
    Sys2Proof.Laws.Descriptor.Statement (.staZpX d8) :=
    ⟨(by decide : Sys2Proof.descriptorOf 0x95 = some ⟨.sta, .zeroPageX, 4⟩), rfl⟩

theorem Sys2Proof.Laws.Descriptor.stxZpY (d8 : Sys2Proof.Byte) :
    Sys2Proof.Laws.Descriptor.Statement (.stxZpY d8) :=
    ⟨(by decide : Sys2Proof.descriptorOf 0x96 = some ⟨.stx, .zeroPageY, 4⟩), rfl⟩

theorem Sys2Proof.Laws.Descriptor.saxZpY (d8 : Sys2Proof.Byte) :
    Sys2Proof.Laws.Descriptor.Statement (.saxZpY d8) :=
    ⟨(by decide : Sys2Proof.descriptorOf 0x97 = some ⟨.sax, .zeroPageY, 4⟩), rfl⟩

theorem Sys2Proof.Laws.Descriptor.tya : Sys2Proof.Laws.Descriptor.Statement .tya :=
    ⟨(by decide : Sys2Proof.descriptorOf 0x98 = some ⟨.tya, .implied, 2⟩), rfl⟩

theorem Sys2Proof.Laws.Descriptor.staAbsY (a16 : Sys2Proof.Word) :
    Sys2Proof.Laws.Descriptor.Statement (.staAbsY a16) :=
    ⟨(by decide : Sys2Proof.descriptorOf 0x99 = some ⟨.sta, .absoluteY, 5⟩), rfl⟩

theorem Sys2Proof.Laws.Descriptor.txs : Sys2Proof.Laws.Descriptor.Statement .txs :=
    ⟨(by decide : Sys2Proof.descriptorOf 0x9A = some ⟨.txs, .implied, 2⟩), rfl⟩

theorem Sys2Proof.Laws.Descriptor.staAbsX (a16 : Sys2Proof.Word) :
    Sys2Proof.Laws.Descriptor.Statement (.staAbsX a16) :=
    ⟨(by decide : Sys2Proof.descriptorOf 0x9D = some ⟨.sta, .absoluteX, 5⟩), rfl⟩

theorem Sys2Proof.Laws.Descriptor.ldyImm (d8 : Sys2Proof.Byte) :
    Sys2Proof.Laws.Descriptor.Statement (.ldyImm d8) :=
    ⟨(by decide : Sys2Proof.descriptorOf 0xA0 = some ⟨.ldy, .immediate, 2⟩), rfl⟩

theorem Sys2Proof.Laws.Descriptor.ldaIndX (d8 : Sys2Proof.Byte) :
    Sys2Proof.Laws.Descriptor.Statement (.ldaIndX d8) :=
    ⟨(by decide : Sys2Proof.descriptorOf 0xA1 = some ⟨.lda, .indirectX, 6⟩), rfl⟩

theorem Sys2Proof.Laws.Descriptor.ldxImm (d8 : Sys2Proof.Byte) :
    Sys2Proof.Laws.Descriptor.Statement (.ldxImm d8) :=
    ⟨(by decide : Sys2Proof.descriptorOf 0xA2 = some ⟨.ldx, .immediate, 2⟩), rfl⟩

theorem Sys2Proof.Laws.Descriptor.laxIndX (d8 : Sys2Proof.Byte) :
    Sys2Proof.Laws.Descriptor.Statement (.laxIndX d8) :=
    ⟨(by decide : Sys2Proof.descriptorOf 0xA3 = some ⟨.lax, .indirectX, 6⟩), rfl⟩

theorem Sys2Proof.Laws.Descriptor.ldyZp (d8 : Sys2Proof.Byte) :
    Sys2Proof.Laws.Descriptor.Statement (.ldyZp d8) :=
    ⟨(by decide : Sys2Proof.descriptorOf 0xA4 = some ⟨.ldy, .zeroPage, 3⟩), rfl⟩

theorem Sys2Proof.Laws.Descriptor.ldaZp (d8 : Sys2Proof.Byte) :
    Sys2Proof.Laws.Descriptor.Statement (.ldaZp d8) :=
    ⟨(by decide : Sys2Proof.descriptorOf 0xA5 = some ⟨.lda, .zeroPage, 3⟩), rfl⟩

theorem Sys2Proof.Laws.Descriptor.ldxZp (d8 : Sys2Proof.Byte) :
    Sys2Proof.Laws.Descriptor.Statement (.ldxZp d8) :=
    ⟨(by decide : Sys2Proof.descriptorOf 0xA6 = some ⟨.ldx, .zeroPage, 3⟩), rfl⟩

theorem Sys2Proof.Laws.Descriptor.laxZp (d8 : Sys2Proof.Byte) :
    Sys2Proof.Laws.Descriptor.Statement (.laxZp d8) :=
    ⟨(by decide : Sys2Proof.descriptorOf 0xA7 = some ⟨.lax, .zeroPage, 3⟩), rfl⟩

theorem Sys2Proof.Laws.Descriptor.tay : Sys2Proof.Laws.Descriptor.Statement .tay :=
    ⟨(by decide : Sys2Proof.descriptorOf 0xA8 = some ⟨.tay, .implied, 2⟩), rfl⟩

theorem Sys2Proof.Laws.Descriptor.ldaImm (d8 : Sys2Proof.Byte) :
    Sys2Proof.Laws.Descriptor.Statement (.ldaImm d8) :=
    ⟨(by decide : Sys2Proof.descriptorOf 0xA9 = some ⟨.lda, .immediate, 2⟩), rfl⟩

theorem Sys2Proof.Laws.Descriptor.tax : Sys2Proof.Laws.Descriptor.Statement .tax :=
    ⟨(by decide : Sys2Proof.descriptorOf 0xAA = some ⟨.tax, .implied, 2⟩), rfl⟩

theorem Sys2Proof.Laws.Descriptor.ldyAbs (a16 : Sys2Proof.Word) :
    Sys2Proof.Laws.Descriptor.Statement (.ldyAbs a16) :=
    ⟨(by decide : Sys2Proof.descriptorOf 0xAC = some ⟨.ldy, .absolute, 4⟩), rfl⟩

theorem Sys2Proof.Laws.Descriptor.ldaAbs (a16 : Sys2Proof.Word) :
    Sys2Proof.Laws.Descriptor.Statement (.ldaAbs a16) :=
    ⟨(by decide : Sys2Proof.descriptorOf 0xAD = some ⟨.lda, .absolute, 4⟩), rfl⟩

theorem Sys2Proof.Laws.Descriptor.ldxAbs (a16 : Sys2Proof.Word) :
    Sys2Proof.Laws.Descriptor.Statement (.ldxAbs a16) :=
    ⟨(by decide : Sys2Proof.descriptorOf 0xAE = some ⟨.ldx, .absolute, 4⟩), rfl⟩

theorem Sys2Proof.Laws.Descriptor.laxAbs (a16 : Sys2Proof.Word) :
    Sys2Proof.Laws.Descriptor.Statement (.laxAbs a16) :=
    ⟨(by decide : Sys2Proof.descriptorOf 0xAF = some ⟨.lax, .absolute, 4⟩), rfl⟩

theorem Sys2Proof.Laws.Descriptor.bcs (offset : Int) :
    Sys2Proof.Laws.Descriptor.Statement (.bcs offset) :=
    ⟨(by decide : Sys2Proof.descriptorOf 0xB0 = some ⟨.bcs, .relative, 2⟩), rfl⟩

theorem Sys2Proof.Laws.Descriptor.ldaIndY (d8 : Sys2Proof.Byte) :
    Sys2Proof.Laws.Descriptor.Statement (.ldaIndY d8) :=
    ⟨(by decide : Sys2Proof.descriptorOf 0xB1 = some ⟨.lda, .indirectY, 5⟩), rfl⟩

theorem Sys2Proof.Laws.Descriptor.laxIndY (d8 : Sys2Proof.Byte) :
    Sys2Proof.Laws.Descriptor.Statement (.laxIndY d8) :=
    ⟨(by decide : Sys2Proof.descriptorOf 0xB3 = some ⟨.lax, .indirectY, 5⟩), rfl⟩

theorem Sys2Proof.Laws.Descriptor.ldyZpX (d8 : Sys2Proof.Byte) :
    Sys2Proof.Laws.Descriptor.Statement (.ldyZpX d8) :=
    ⟨(by decide : Sys2Proof.descriptorOf 0xB4 = some ⟨.ldy, .zeroPageX, 4⟩), rfl⟩

theorem Sys2Proof.Laws.Descriptor.ldaZpX (d8 : Sys2Proof.Byte) :
    Sys2Proof.Laws.Descriptor.Statement (.ldaZpX d8) :=
    ⟨(by decide : Sys2Proof.descriptorOf 0xB5 = some ⟨.lda, .zeroPageX, 4⟩), rfl⟩

theorem Sys2Proof.Laws.Descriptor.ldxZpY (d8 : Sys2Proof.Byte) :
    Sys2Proof.Laws.Descriptor.Statement (.ldxZpY d8) :=
    ⟨(by decide : Sys2Proof.descriptorOf 0xB6 = some ⟨.ldx, .zeroPageY, 4⟩), rfl⟩

theorem Sys2Proof.Laws.Descriptor.laxZpY (d8 : Sys2Proof.Byte) :
    Sys2Proof.Laws.Descriptor.Statement (.laxZpY d8) :=
    ⟨(by decide : Sys2Proof.descriptorOf 0xB7 = some ⟨.lax, .zeroPageY, 4⟩), rfl⟩

theorem Sys2Proof.Laws.Descriptor.clv : Sys2Proof.Laws.Descriptor.Statement .clv :=
    ⟨(by decide : Sys2Proof.descriptorOf 0xB8 = some ⟨.clv, .implied, 2⟩), rfl⟩

theorem Sys2Proof.Laws.Descriptor.ldaAbsY (a16 : Sys2Proof.Word) :
    Sys2Proof.Laws.Descriptor.Statement (.ldaAbsY a16) :=
    ⟨(by decide : Sys2Proof.descriptorOf 0xB9 = some ⟨.lda, .absoluteY, 4⟩), rfl⟩

theorem Sys2Proof.Laws.Descriptor.tsx : Sys2Proof.Laws.Descriptor.Statement .tsx :=
    ⟨(by decide : Sys2Proof.descriptorOf 0xBA = some ⟨.tsx, .implied, 2⟩), rfl⟩

theorem Sys2Proof.Laws.Descriptor.ldyAbsX (a16 : Sys2Proof.Word) :
    Sys2Proof.Laws.Descriptor.Statement (.ldyAbsX a16) :=
    ⟨(by decide : Sys2Proof.descriptorOf 0xBC = some ⟨.ldy, .absoluteX, 4⟩), rfl⟩

theorem Sys2Proof.Laws.Descriptor.ldaAbsX (a16 : Sys2Proof.Word) :
    Sys2Proof.Laws.Descriptor.Statement (.ldaAbsX a16) :=
    ⟨(by decide : Sys2Proof.descriptorOf 0xBD = some ⟨.lda, .absoluteX, 4⟩), rfl⟩

theorem Sys2Proof.Laws.Descriptor.ldxAbsY (a16 : Sys2Proof.Word) :
    Sys2Proof.Laws.Descriptor.Statement (.ldxAbsY a16) :=
    ⟨(by decide : Sys2Proof.descriptorOf 0xBE = some ⟨.ldx, .absoluteY, 4⟩), rfl⟩

theorem Sys2Proof.Laws.Descriptor.laxAbsY (a16 : Sys2Proof.Word) :
    Sys2Proof.Laws.Descriptor.Statement (.laxAbsY a16) :=
    ⟨(by decide : Sys2Proof.descriptorOf 0xBF = some ⟨.lax, .absoluteY, 4⟩), rfl⟩

theorem Sys2Proof.Laws.Descriptor.cpyImm (d8 : Sys2Proof.Byte) :
    Sys2Proof.Laws.Descriptor.Statement (.cpyImm d8) :=
    ⟨(by decide : Sys2Proof.descriptorOf 0xC0 = some ⟨.cpy, .immediate, 2⟩), rfl⟩

theorem Sys2Proof.Laws.Descriptor.cmpIndX (d8 : Sys2Proof.Byte) :
    Sys2Proof.Laws.Descriptor.Statement (.cmpIndX d8) :=
    ⟨(by decide : Sys2Proof.descriptorOf 0xC1 = some ⟨.cmp, .indirectX, 6⟩), rfl⟩

theorem Sys2Proof.Laws.Descriptor.skbImmC2 (d8 : Sys2Proof.Byte) :
    Sys2Proof.Laws.Descriptor.Statement (.skbImmC2 d8) :=
    ⟨(by decide : Sys2Proof.descriptorOf 0xC2 = some ⟨.skb, .immediate, 2⟩), rfl⟩

theorem Sys2Proof.Laws.Descriptor.dcpIndX (d8 : Sys2Proof.Byte) :
    Sys2Proof.Laws.Descriptor.Statement (.dcpIndX d8) :=
    ⟨(by decide : Sys2Proof.descriptorOf 0xC3 = some ⟨.dcp, .indirectX, 8⟩), rfl⟩

theorem Sys2Proof.Laws.Descriptor.cpyZp (d8 : Sys2Proof.Byte) :
    Sys2Proof.Laws.Descriptor.Statement (.cpyZp d8) :=
    ⟨(by decide : Sys2Proof.descriptorOf 0xC4 = some ⟨.cpy, .zeroPage, 3⟩), rfl⟩

theorem Sys2Proof.Laws.Descriptor.cmpZp (d8 : Sys2Proof.Byte) :
    Sys2Proof.Laws.Descriptor.Statement (.cmpZp d8) :=
    ⟨(by decide : Sys2Proof.descriptorOf 0xC5 = some ⟨.cmp, .zeroPage, 3⟩), rfl⟩

theorem Sys2Proof.Laws.Descriptor.decZp (d8 : Sys2Proof.Byte) :
    Sys2Proof.Laws.Descriptor.Statement (.decZp d8) :=
    ⟨(by decide : Sys2Proof.descriptorOf 0xC6 = some ⟨.dec, .zeroPage, 5⟩), rfl⟩

theorem Sys2Proof.Laws.Descriptor.dcpZp (d8 : Sys2Proof.Byte) :
    Sys2Proof.Laws.Descriptor.Statement (.dcpZp d8) :=
    ⟨(by decide : Sys2Proof.descriptorOf 0xC7 = some ⟨.dcp, .zeroPage, 5⟩), rfl⟩

theorem Sys2Proof.Laws.Descriptor.iny : Sys2Proof.Laws.Descriptor.Statement .iny :=
    ⟨(by decide : Sys2Proof.descriptorOf 0xC8 = some ⟨.iny, .implied, 2⟩), rfl⟩

theorem Sys2Proof.Laws.Descriptor.cmpImm (d8 : Sys2Proof.Byte) :
    Sys2Proof.Laws.Descriptor.Statement (.cmpImm d8) :=
    ⟨(by decide : Sys2Proof.descriptorOf 0xC9 = some ⟨.cmp, .immediate, 2⟩), rfl⟩

theorem Sys2Proof.Laws.Descriptor.dex : Sys2Proof.Laws.Descriptor.Statement .dex :=
    ⟨(by decide : Sys2Proof.descriptorOf 0xCA = some ⟨.dex, .implied, 2⟩), rfl⟩

theorem Sys2Proof.Laws.Descriptor.axsImm (d8 : Sys2Proof.Byte) :
    Sys2Proof.Laws.Descriptor.Statement (.axsImm d8) :=
    ⟨(by decide : Sys2Proof.descriptorOf 0xCB = some ⟨.axs, .immediate, 2⟩), rfl⟩

theorem Sys2Proof.Laws.Descriptor.cpyAbs (a16 : Sys2Proof.Word) :
    Sys2Proof.Laws.Descriptor.Statement (.cpyAbs a16) :=
    ⟨(by decide : Sys2Proof.descriptorOf 0xCC = some ⟨.cpy, .absolute, 4⟩), rfl⟩

theorem Sys2Proof.Laws.Descriptor.cmpAbs (a16 : Sys2Proof.Word) :
    Sys2Proof.Laws.Descriptor.Statement (.cmpAbs a16) :=
    ⟨(by decide : Sys2Proof.descriptorOf 0xCD = some ⟨.cmp, .absolute, 4⟩), rfl⟩

theorem Sys2Proof.Laws.Descriptor.decAbs (a16 : Sys2Proof.Word) :
    Sys2Proof.Laws.Descriptor.Statement (.decAbs a16) :=
    ⟨(by decide : Sys2Proof.descriptorOf 0xCE = some ⟨.dec, .absolute, 6⟩), rfl⟩

theorem Sys2Proof.Laws.Descriptor.dcpAbs (a16 : Sys2Proof.Word) :
    Sys2Proof.Laws.Descriptor.Statement (.dcpAbs a16) :=
    ⟨(by decide : Sys2Proof.descriptorOf 0xCF = some ⟨.dcp, .absolute, 6⟩), rfl⟩

theorem Sys2Proof.Laws.Descriptor.bne (offset : Int) :
    Sys2Proof.Laws.Descriptor.Statement (.bne offset) :=
    ⟨(by decide : Sys2Proof.descriptorOf 0xD0 = some ⟨.bne, .relative, 2⟩), rfl⟩

theorem Sys2Proof.Laws.Descriptor.cmpIndY (d8 : Sys2Proof.Byte) :
    Sys2Proof.Laws.Descriptor.Statement (.cmpIndY d8) :=
    ⟨(by decide : Sys2Proof.descriptorOf 0xD1 = some ⟨.cmp, .indirectY, 5⟩), rfl⟩

theorem Sys2Proof.Laws.Descriptor.dcpIndY (d8 : Sys2Proof.Byte) :
    Sys2Proof.Laws.Descriptor.Statement (.dcpIndY d8) :=
    ⟨(by decide : Sys2Proof.descriptorOf 0xD3 = some ⟨.dcp, .indirectY, 8⟩), rfl⟩

theorem Sys2Proof.Laws.Descriptor.ignZpXD4 (d8 : Sys2Proof.Byte) :
    Sys2Proof.Laws.Descriptor.Statement (.ignZpXD4 d8) :=
    ⟨(by decide : Sys2Proof.descriptorOf 0xD4 = some ⟨.ign, .zeroPageX, 4⟩), rfl⟩

theorem Sys2Proof.Laws.Descriptor.cmpZpX (d8 : Sys2Proof.Byte) :
    Sys2Proof.Laws.Descriptor.Statement (.cmpZpX d8) :=
    ⟨(by decide : Sys2Proof.descriptorOf 0xD5 = some ⟨.cmp, .zeroPageX, 4⟩), rfl⟩

theorem Sys2Proof.Laws.Descriptor.decZpX (d8 : Sys2Proof.Byte) :
    Sys2Proof.Laws.Descriptor.Statement (.decZpX d8) :=
    ⟨(by decide : Sys2Proof.descriptorOf 0xD6 = some ⟨.dec, .zeroPageX, 6⟩), rfl⟩

theorem Sys2Proof.Laws.Descriptor.dcpZpX (d8 : Sys2Proof.Byte) :
    Sys2Proof.Laws.Descriptor.Statement (.dcpZpX d8) :=
    ⟨(by decide : Sys2Proof.descriptorOf 0xD7 = some ⟨.dcp, .zeroPageX, 6⟩), rfl⟩

theorem Sys2Proof.Laws.Descriptor.cld : Sys2Proof.Laws.Descriptor.Statement .cld :=
    ⟨(by decide : Sys2Proof.descriptorOf 0xD8 = some ⟨.cld, .implied, 2⟩), rfl⟩

theorem Sys2Proof.Laws.Descriptor.cmpAbsY (a16 : Sys2Proof.Word) :
    Sys2Proof.Laws.Descriptor.Statement (.cmpAbsY a16) :=
    ⟨(by decide : Sys2Proof.descriptorOf 0xD9 = some ⟨.cmp, .absoluteY, 4⟩), rfl⟩

theorem Sys2Proof.Laws.Descriptor.dcpAbsY (a16 : Sys2Proof.Word) :
    Sys2Proof.Laws.Descriptor.Statement (.dcpAbsY a16) :=
    ⟨(by decide : Sys2Proof.descriptorOf 0xDB = some ⟨.dcp, .absoluteY, 7⟩), rfl⟩

theorem Sys2Proof.Laws.Descriptor.ignAbsXDC (a16 : Sys2Proof.Word) :
    Sys2Proof.Laws.Descriptor.Statement (.ignAbsXDC a16) :=
    ⟨(by decide : Sys2Proof.descriptorOf 0xDC = some ⟨.ign, .absoluteX, 4⟩), rfl⟩

theorem Sys2Proof.Laws.Descriptor.cmpAbsX (a16 : Sys2Proof.Word) :
    Sys2Proof.Laws.Descriptor.Statement (.cmpAbsX a16) :=
    ⟨(by decide : Sys2Proof.descriptorOf 0xDD = some ⟨.cmp, .absoluteX, 4⟩), rfl⟩

theorem Sys2Proof.Laws.Descriptor.decAbsX (a16 : Sys2Proof.Word) :
    Sys2Proof.Laws.Descriptor.Statement (.decAbsX a16) :=
    ⟨(by decide : Sys2Proof.descriptorOf 0xDE = some ⟨.dec, .absoluteX, 7⟩), rfl⟩

theorem Sys2Proof.Laws.Descriptor.dcpAbsX (a16 : Sys2Proof.Word) :
    Sys2Proof.Laws.Descriptor.Statement (.dcpAbsX a16) :=
    ⟨(by decide : Sys2Proof.descriptorOf 0xDF = some ⟨.dcp, .absoluteX, 7⟩), rfl⟩

theorem Sys2Proof.Laws.Descriptor.cpxImm (d8 : Sys2Proof.Byte) :
    Sys2Proof.Laws.Descriptor.Statement (.cpxImm d8) :=
    ⟨(by decide : Sys2Proof.descriptorOf 0xE0 = some ⟨.cpx, .immediate, 2⟩), rfl⟩

theorem Sys2Proof.Laws.Descriptor.sbcIndX (d8 : Sys2Proof.Byte) :
    Sys2Proof.Laws.Descriptor.Statement (.sbcIndX d8) :=
    ⟨(by decide : Sys2Proof.descriptorOf 0xE1 = some ⟨.sbc, .indirectX, 6⟩), rfl⟩

theorem Sys2Proof.Laws.Descriptor.skbImmE2 (d8 : Sys2Proof.Byte) :
    Sys2Proof.Laws.Descriptor.Statement (.skbImmE2 d8) :=
    ⟨(by decide : Sys2Proof.descriptorOf 0xE2 = some ⟨.skb, .immediate, 2⟩), rfl⟩

theorem Sys2Proof.Laws.Descriptor.iscIndX (d8 : Sys2Proof.Byte) :
    Sys2Proof.Laws.Descriptor.Statement (.iscIndX d8) :=
    ⟨(by decide : Sys2Proof.descriptorOf 0xE3 = some ⟨.isc, .indirectX, 8⟩), rfl⟩

theorem Sys2Proof.Laws.Descriptor.cpxZp (d8 : Sys2Proof.Byte) :
    Sys2Proof.Laws.Descriptor.Statement (.cpxZp d8) :=
    ⟨(by decide : Sys2Proof.descriptorOf 0xE4 = some ⟨.cpx, .zeroPage, 3⟩), rfl⟩

theorem Sys2Proof.Laws.Descriptor.sbcZp (d8 : Sys2Proof.Byte) :
    Sys2Proof.Laws.Descriptor.Statement (.sbcZp d8) :=
    ⟨(by decide : Sys2Proof.descriptorOf 0xE5 = some ⟨.sbc, .zeroPage, 3⟩), rfl⟩

theorem Sys2Proof.Laws.Descriptor.incZp (d8 : Sys2Proof.Byte) :
    Sys2Proof.Laws.Descriptor.Statement (.incZp d8) :=
    ⟨(by decide : Sys2Proof.descriptorOf 0xE6 = some ⟨.inc, .zeroPage, 5⟩), rfl⟩

theorem Sys2Proof.Laws.Descriptor.iscZp (d8 : Sys2Proof.Byte) :
    Sys2Proof.Laws.Descriptor.Statement (.iscZp d8) :=
    ⟨(by decide : Sys2Proof.descriptorOf 0xE7 = some ⟨.isc, .zeroPage, 5⟩), rfl⟩

theorem Sys2Proof.Laws.Descriptor.inx : Sys2Proof.Laws.Descriptor.Statement .inx :=
    ⟨(by decide : Sys2Proof.descriptorOf 0xE8 = some ⟨.inx, .implied, 2⟩), rfl⟩

theorem Sys2Proof.Laws.Descriptor.sbcImm (d8 : Sys2Proof.Byte) :
    Sys2Proof.Laws.Descriptor.Statement (.sbcImm d8) :=
    ⟨(by decide : Sys2Proof.descriptorOf 0xE9 = some ⟨.sbc, .immediate, 2⟩), rfl⟩

theorem Sys2Proof.Laws.Descriptor.nop : Sys2Proof.Laws.Descriptor.Statement .nop :=
    ⟨(by decide : Sys2Proof.descriptorOf 0xEA = some ⟨.nop, .implied, 2⟩), rfl⟩

theorem Sys2Proof.Laws.Descriptor.cpxAbs (a16 : Sys2Proof.Word) :
    Sys2Proof.Laws.Descriptor.Statement (.cpxAbs a16) :=
    ⟨(by decide : Sys2Proof.descriptorOf 0xEC = some ⟨.cpx, .absolute, 4⟩), rfl⟩

theorem Sys2Proof.Laws.Descriptor.sbcAbs (a16 : Sys2Proof.Word) :
    Sys2Proof.Laws.Descriptor.Statement (.sbcAbs a16) :=
    ⟨(by decide : Sys2Proof.descriptorOf 0xED = some ⟨.sbc, .absolute, 4⟩), rfl⟩

theorem Sys2Proof.Laws.Descriptor.incAbs (a16 : Sys2Proof.Word) :
    Sys2Proof.Laws.Descriptor.Statement (.incAbs a16) :=
    ⟨(by decide : Sys2Proof.descriptorOf 0xEE = some ⟨.inc, .absolute, 6⟩), rfl⟩

theorem Sys2Proof.Laws.Descriptor.iscAbs (a16 : Sys2Proof.Word) :
    Sys2Proof.Laws.Descriptor.Statement (.iscAbs a16) :=
    ⟨(by decide : Sys2Proof.descriptorOf 0xEF = some ⟨.isc, .absolute, 6⟩), rfl⟩

theorem Sys2Proof.Laws.Descriptor.beq (offset : Int) :
    Sys2Proof.Laws.Descriptor.Statement (.beq offset) :=
    ⟨(by decide : Sys2Proof.descriptorOf 0xF0 = some ⟨.beq, .relative, 2⟩), rfl⟩

theorem Sys2Proof.Laws.Descriptor.sbcIndY (d8 : Sys2Proof.Byte) :
    Sys2Proof.Laws.Descriptor.Statement (.sbcIndY d8) :=
    ⟨(by decide : Sys2Proof.descriptorOf 0xF1 = some ⟨.sbc, .indirectY, 5⟩), rfl⟩

theorem Sys2Proof.Laws.Descriptor.iscIndY (d8 : Sys2Proof.Byte) :
    Sys2Proof.Laws.Descriptor.Statement (.iscIndY d8) :=
    ⟨(by decide : Sys2Proof.descriptorOf 0xF3 = some ⟨.isc, .indirectY, 8⟩), rfl⟩

theorem Sys2Proof.Laws.Descriptor.ignZpXF4 (d8 : Sys2Proof.Byte) :
    Sys2Proof.Laws.Descriptor.Statement (.ignZpXF4 d8) :=
    ⟨(by decide : Sys2Proof.descriptorOf 0xF4 = some ⟨.ign, .zeroPageX, 4⟩), rfl⟩

theorem Sys2Proof.Laws.Descriptor.sbcZpX (d8 : Sys2Proof.Byte) :
    Sys2Proof.Laws.Descriptor.Statement (.sbcZpX d8) :=
    ⟨(by decide : Sys2Proof.descriptorOf 0xF5 = some ⟨.sbc, .zeroPageX, 4⟩), rfl⟩

theorem Sys2Proof.Laws.Descriptor.incZpX (d8 : Sys2Proof.Byte) :
    Sys2Proof.Laws.Descriptor.Statement (.incZpX d8) :=
    ⟨(by decide : Sys2Proof.descriptorOf 0xF6 = some ⟨.inc, .zeroPageX, 6⟩), rfl⟩

theorem Sys2Proof.Laws.Descriptor.iscZpX (d8 : Sys2Proof.Byte) :
    Sys2Proof.Laws.Descriptor.Statement (.iscZpX d8) :=
    ⟨(by decide : Sys2Proof.descriptorOf 0xF7 = some ⟨.isc, .zeroPageX, 6⟩), rfl⟩

theorem Sys2Proof.Laws.Descriptor.sed : Sys2Proof.Laws.Descriptor.Statement .sed :=
    ⟨(by decide : Sys2Proof.descriptorOf 0xF8 = some ⟨.sed, .implied, 2⟩), rfl⟩

theorem Sys2Proof.Laws.Descriptor.sbcAbsY (a16 : Sys2Proof.Word) :
    Sys2Proof.Laws.Descriptor.Statement (.sbcAbsY a16) :=
    ⟨(by decide : Sys2Proof.descriptorOf 0xF9 = some ⟨.sbc, .absoluteY, 4⟩), rfl⟩

theorem Sys2Proof.Laws.Descriptor.iscAbsY (a16 : Sys2Proof.Word) :
    Sys2Proof.Laws.Descriptor.Statement (.iscAbsY a16) :=
    ⟨(by decide : Sys2Proof.descriptorOf 0xFB = some ⟨.isc, .absoluteY, 7⟩), rfl⟩

theorem Sys2Proof.Laws.Descriptor.ignAbsXFC (a16 : Sys2Proof.Word) :
    Sys2Proof.Laws.Descriptor.Statement (.ignAbsXFC a16) :=
    ⟨(by decide : Sys2Proof.descriptorOf 0xFC = some ⟨.ign, .absoluteX, 4⟩), rfl⟩

theorem Sys2Proof.Laws.Descriptor.sbcAbsX (a16 : Sys2Proof.Word) :
    Sys2Proof.Laws.Descriptor.Statement (.sbcAbsX a16) :=
    ⟨(by decide : Sys2Proof.descriptorOf 0xFD = some ⟨.sbc, .absoluteX, 4⟩), rfl⟩

theorem Sys2Proof.Laws.Descriptor.incAbsX (a16 : Sys2Proof.Word) :
    Sys2Proof.Laws.Descriptor.Statement (.incAbsX a16) :=
    ⟨(by decide : Sys2Proof.descriptorOf 0xFE = some ⟨.inc, .absoluteX, 7⟩), rfl⟩

theorem Sys2Proof.Laws.Descriptor.iscAbsX (a16 : Sys2Proof.Word) :
    Sys2Proof.Laws.Descriptor.Statement (.iscAbsX a16) :=
    ⟨(by decide : Sys2Proof.descriptorOf 0xFF = some ⟨.isc, .absoluteX, 7⟩), rfl⟩
end

