-- ==== Sys2Proof/Laws/Words.lean ====
section
/-! SUPPORT. The byte and word helpers as arithmetic on numbers. -/

namespace Sys2Proof.Machine

/-- A word made of two bytes. -/
theorem wordOf_toNat (hi lo : Byte) : (wordOf hi lo).toNat = hi.toNat * 256 + lo.toNat := by
  have h : (wordOf hi lo).toNat = hi.toNat <<< 8 ||| lo.toNat := BitVec.toNat_append _ _
  rw [h, Nat.shiftLeft_eq, Nat.mul_comm, ← Nat.two_pow_add_eq_or_of_lt (i := 8) lo.isLt hi.toNat, Nat.mul_comm]

theorem hiByte_toNat (w : Word) : (hiByte w).toNat = w.toNat / 256 := by
  have := w.isLt
  simp [hiByte, Nat.shiftRight_eq_div_pow]
  omega

theorem loByte_toNat (w : Word) : (loByte w).toNat = w.toNat % 256 := by
  simp [loByte]

/-- A word is its two bytes. -/
theorem wordOf_hiByte_loByte (w : Word) : wordOf (hiByte w) (loByte w) = w := by
  apply BitVec.eq_of_toNat_eq
  rw [wordOf_toNat, hiByte_toNat, loByte_toNat]
  omega

/-- The stack lies in page 1 (20_memory.md R65). -/
theorem stackAddress_toNat (sp : Byte) : (stackAddress sp).toNat = 0x0100 + sp.toNat := by
  rw [stackAddress, wordOf_toNat]; rfl

/-- Different values of SP designate different bytes. -/
theorem stackAddress_ne {a b : Byte} (h : a ≠ b) : stackAddress a ≠ stackAddress b := by
  intro e
  have := congrArg BitVec.toNat e
  rw [stackAddress_toNat, stackAddress_toNat] at this
  exact h (BitVec.eq_of_toNat_eq (by omega))

/-- The second byte of a pointer lies in the pointer's page (41_addressing_modes.md R131). -/
theorem nextInPage_toNat (a : Word) : (nextInPage a).toNat = a.toNat / 256 * 256 + (a.toNat + 1) % 256 := by
  rw [nextInPage, wordOf_toNat, hiByte_toNat]
  simp [loByte]

theorem zext16_toNat (b : Byte) : (zext16 b).toNat = b.toNat := by
  have := b.isLt
  simp [zext16]
  omega

theorem sext16_toInt (b : Byte) : (sext16 b).toInt = b.toInt := by
  rw [sext16, BitVec.toInt_signExtend_of_le (by omega)]

end Sys2Proof.Machine
end

