-- ==== Sys2Proof/Tests/Slice0.lean ====
section
/-! SUPPORT. The model's own tests: the well-formedness smoke, a word of every constructor from the tables of 30_encoding.md,
the vectors of 95_test_vectors.md one step each, and a witness for the hypotheses of every statement. -/

namespace Sys2Proof.Tests
open Sys2Proof Sys2Proof.Machine

/-! Helpers. -/

/-- The default start state of 95_test_vectors.md. -/
def base : State := { State.powerOn with pc := 0x8000 }

/-- A state under UNOFFICIAL_EXEC = full. -/
def full (s : State) : State := { s with params := { s.params with unofficialExec := .full } }

/-- Bytes at pc, then single cells. -/
def load (bytes : List Byte) (cells : List (Word × Byte)) (s : State) : State :=
  { s with mem := cells.foldl (fun m c => Memory.write m c.1.toNat c.2) (placeBytes bytes s.pc s.mem) }

/-- What a view of the next state shows, where a step has one. -/
def after {β : Type} (view : State → β) (s : State) : Option β :=
  match step s with
  | .next t => some (view t)
  | .fault _ => none
  | .refused _ => none

/-- The fault a step ends in, where it does. -/
def faultOf (s : State) : Option Fault :=
  match step s with
  | .next _ => none
  | .fault f => some f
  | .refused _ => none

/-! Well-formedness: the one check there is, at both ends of the range (30_encoding.md R82). -/

theorem test_illFormed_bpl :
    [Instr.bpl 128, .bpl (-129), .bpl 127, .bpl (-128)].map Instr.wellFormed = [false, false, true, true] := by decide
theorem test_illFormed_bmi :
    [Instr.bmi 128, .bmi (-129), .bmi 127, .bmi (-128)].map Instr.wellFormed = [false, false, true, true] := by decide
theorem test_illFormed_bvc :
    [Instr.bvc 128, .bvc (-129), .bvc 127, .bvc (-128)].map Instr.wellFormed = [false, false, true, true] := by decide
theorem test_illFormed_bvs :
    [Instr.bvs 128, .bvs (-129), .bvs 127, .bvs (-128)].map Instr.wellFormed = [false, false, true, true] := by decide
theorem test_illFormed_bcc :
    [Instr.bcc 128, .bcc (-129), .bcc 127, .bcc (-128)].map Instr.wellFormed = [false, false, true, true] := by decide
theorem test_illFormed_bcs :
    [Instr.bcs 128, .bcs (-129), .bcs 127, .bcs (-128)].map Instr.wellFormed = [false, false, true, true] := by decide
theorem test_illFormed_bne :
    [Instr.bne 128, .bne (-129), .bne 127, .bne (-128)].map Instr.wellFormed = [false, false, true, true] := by decide
theorem test_illFormed_beq :
    [Instr.beq 128, .beq (-129), .beq 127, .beq (-128)].map Instr.wellFormed = [false, false, true, true] := by decide

/-! Decoding: the words of each row of the opcode matrix (30_encoding.md R82, R84, R85). Operand bytes are 0x34 0x12, so d8 is
0x34 (displacement 52) and a16 is 0x1234. -/

theorem test_decode_row0 :
    ([
      [0x00], [0x01, 0x34], [0x03, 0x34], [0x04, 0x34], [0x05, 0x34], [0x06, 0x34], [0x07, 0x34], [0x08],
      [0x09, 0x34], [0x0A], [0x0B, 0x34], [0x0C, 0x34, 0x12], [0x0D, 0x34, 0x12], [0x0E, 0x34, 0x12],
      [0x0F, 0x34, 0x12]] : List (List Byte)).map decode = [
      .ok (.brk, []), .ok (.oraIndX 0x34, []), .ok (.sloIndX 0x34, []), .ok (.ignZp04 0x34, []),
      .ok (.oraZp 0x34, []), .ok (.aslZp 0x34, []), .ok (.sloZp 0x34, []), .ok (.php, []), .ok (.oraImm 0x34, []),
      .ok (.aslAcc, []), .ok (.ancImm0B 0x34, []), .ok (.ignAbs 0x1234, []), .ok (.oraAbs 0x1234, []),
      .ok (.aslAbs 0x1234, []), .ok (.sloAbs 0x1234, [])] := by rfl
theorem test_decode_row1 :
    ([
      [0x10, 0x34], [0x11, 0x34], [0x13, 0x34], [0x14, 0x34], [0x15, 0x34], [0x16, 0x34], [0x17, 0x34], [0x18],
      [0x19, 0x34, 0x12], [0x1B, 0x34, 0x12], [0x1C, 0x34, 0x12], [0x1D, 0x34, 0x12], [0x1E, 0x34, 0x12],
      [0x1F, 0x34, 0x12]] : List (List Byte)).map decode = [
      .ok (.bpl 52, []), .ok (.oraIndY 0x34, []), .ok (.sloIndY 0x34, []), .ok (.ignZpX14 0x34, []),
      .ok (.oraZpX 0x34, []), .ok (.aslZpX 0x34, []), .ok (.sloZpX 0x34, []), .ok (.clc, []),
      .ok (.oraAbsY 0x1234, []), .ok (.sloAbsY 0x1234, []), .ok (.ignAbsX1C 0x1234, []), .ok (.oraAbsX 0x1234, []),
      .ok (.aslAbsX 0x1234, []), .ok (.sloAbsX 0x1234, [])] := by rfl
theorem test_decode_row2 :
    ([
      [0x20, 0x34, 0x12], [0x21, 0x34], [0x23, 0x34], [0x24, 0x34], [0x25, 0x34], [0x26, 0x34], [0x27, 0x34], [0x28],
      [0x29, 0x34], [0x2A], [0x2B, 0x34], [0x2C, 0x34, 0x12], [0x2D, 0x34, 0x12], [0x2E, 0x34, 0x12],
      [0x2F, 0x34, 0x12]] : List (List Byte)).map decode = [
      .ok (.jsrAbs 0x1234, []), .ok (.andIndX 0x34, []), .ok (.rlaIndX 0x34, []), .ok (.bitZp 0x34, []),
      .ok (.andZp 0x34, []), .ok (.rolZp 0x34, []), .ok (.rlaZp 0x34, []), .ok (.plp, []), .ok (.andImm 0x34, []),
      .ok (.rolAcc, []), .ok (.ancImm2B 0x34, []), .ok (.bitAbs 0x1234, []), .ok (.andAbs 0x1234, []),
      .ok (.rolAbs 0x1234, []), .ok (.rlaAbs 0x1234, [])] := by rfl
theorem test_decode_row3 :
    ([
      [0x30, 0x34], [0x31, 0x34], [0x33, 0x34], [0x34, 0x34], [0x35, 0x34], [0x36, 0x34], [0x37, 0x34], [0x38],
      [0x39, 0x34, 0x12], [0x3B, 0x34, 0x12], [0x3C, 0x34, 0x12], [0x3D, 0x34, 0x12], [0x3E, 0x34, 0x12],
      [0x3F, 0x34, 0x12]] : List (List Byte)).map decode = [
      .ok (.bmi 52, []), .ok (.andIndY 0x34, []), .ok (.rlaIndY 0x34, []), .ok (.ignZpX34 0x34, []),
      .ok (.andZpX 0x34, []), .ok (.rolZpX 0x34, []), .ok (.rlaZpX 0x34, []), .ok (.sec, []),
      .ok (.andAbsY 0x1234, []), .ok (.rlaAbsY 0x1234, []), .ok (.ignAbsX3C 0x1234, []), .ok (.andAbsX 0x1234, []),
      .ok (.rolAbsX 0x1234, []), .ok (.rlaAbsX 0x1234, [])] := by rfl
theorem test_decode_row4 :
    ([
      [0x40], [0x41, 0x34], [0x43, 0x34], [0x44, 0x34], [0x45, 0x34], [0x46, 0x34], [0x47, 0x34], [0x48],
      [0x49, 0x34], [0x4A], [0x4B, 0x34], [0x4C, 0x34, 0x12], [0x4D, 0x34, 0x12], [0x4E, 0x34, 0x12],
      [0x4F, 0x34, 0x12]] : List (List Byte)).map decode = [
      .ok (.rti, []), .ok (.eorIndX 0x34, []), .ok (.sreIndX 0x34, []), .ok (.ignZp44 0x34, []),
      .ok (.eorZp 0x34, []), .ok (.lsrZp 0x34, []), .ok (.sreZp 0x34, []), .ok (.pha, []), .ok (.eorImm 0x34, []),
      .ok (.lsrAcc, []), .ok (.alrImm 0x34, []), .ok (.jmpAbs 0x1234, []), .ok (.eorAbs 0x1234, []),
      .ok (.lsrAbs 0x1234, []), .ok (.sreAbs 0x1234, [])] := by rfl
theorem test_decode_row5 :
    ([
      [0x50, 0x34], [0x51, 0x34], [0x53, 0x34], [0x54, 0x34], [0x55, 0x34], [0x56, 0x34], [0x57, 0x34], [0x58],
      [0x59, 0x34, 0x12], [0x5B, 0x34, 0x12], [0x5C, 0x34, 0x12], [0x5D, 0x34, 0x12], [0x5E, 0x34, 0x12],
      [0x5F, 0x34, 0x12]] : List (List Byte)).map decode = [
      .ok (.bvc 52, []), .ok (.eorIndY 0x34, []), .ok (.sreIndY 0x34, []), .ok (.ignZpX54 0x34, []),
      .ok (.eorZpX 0x34, []), .ok (.lsrZpX 0x34, []), .ok (.sreZpX 0x34, []), .ok (.cli, []),
      .ok (.eorAbsY 0x1234, []), .ok (.sreAbsY 0x1234, []), .ok (.ignAbsX5C 0x1234, []), .ok (.eorAbsX 0x1234, []),
      .ok (.lsrAbsX 0x1234, []), .ok (.sreAbsX 0x1234, [])] := by rfl
theorem test_decode_row6 :
    ([
      [0x60], [0x61, 0x34], [0x63, 0x34], [0x64, 0x34], [0x65, 0x34], [0x66, 0x34], [0x67, 0x34], [0x68],
      [0x69, 0x34], [0x6A], [0x6B, 0x34], [0x6C, 0x34, 0x12], [0x6D, 0x34, 0x12], [0x6E, 0x34, 0x12],
      [0x6F, 0x34, 0x12]] : List (List Byte)).map decode = [
      .ok (.rts, []), .ok (.adcIndX 0x34, []), .ok (.rraIndX 0x34, []), .ok (.ignZp64 0x34, []),
      .ok (.adcZp 0x34, []), .ok (.rorZp 0x34, []), .ok (.rraZp 0x34, []), .ok (.pla, []), .ok (.adcImm 0x34, []),
      .ok (.rorAcc, []), .ok (.arrImm 0x34, []), .ok (.jmpInd 0x1234, []), .ok (.adcAbs 0x1234, []),
      .ok (.rorAbs 0x1234, []), .ok (.rraAbs 0x1234, [])] := by rfl
theorem test_decode_row7 :
    ([
      [0x70, 0x34], [0x71, 0x34], [0x73, 0x34], [0x74, 0x34], [0x75, 0x34], [0x76, 0x34], [0x77, 0x34], [0x78],
      [0x79, 0x34, 0x12], [0x7B, 0x34, 0x12], [0x7C, 0x34, 0x12], [0x7D, 0x34, 0x12], [0x7E, 0x34, 0x12],
      [0x7F, 0x34, 0x12]] : List (List Byte)).map decode = [
      .ok (.bvs 52, []), .ok (.adcIndY 0x34, []), .ok (.rraIndY 0x34, []), .ok (.ignZpX74 0x34, []),
      .ok (.adcZpX 0x34, []), .ok (.rorZpX 0x34, []), .ok (.rraZpX 0x34, []), .ok (.sei, []),
      .ok (.adcAbsY 0x1234, []), .ok (.rraAbsY 0x1234, []), .ok (.ignAbsX7C 0x1234, []), .ok (.adcAbsX 0x1234, []),
      .ok (.rorAbsX 0x1234, []), .ok (.rraAbsX 0x1234, [])] := by rfl
theorem test_decode_row8 :
    ([
      [0x80, 0x34], [0x81, 0x34], [0x82, 0x34], [0x83, 0x34], [0x84, 0x34], [0x85, 0x34], [0x86, 0x34], [0x87, 0x34],
      [0x88], [0x89, 0x34], [0x8A], [0x8C, 0x34, 0x12], [0x8D, 0x34, 0x12], [0x8E, 0x34, 0x12], [0x8F, 0x34, 0x12]] : List (List Byte)).map decode = [
      .ok (.skbImm80 0x34, []), .ok (.staIndX 0x34, []), .ok (.skbImm82 0x34, []), .ok (.saxIndX 0x34, []),
      .ok (.styZp 0x34, []), .ok (.staZp 0x34, []), .ok (.stxZp 0x34, []), .ok (.saxZp 0x34, []), .ok (.dey, []),
      .ok (.skbImm89 0x34, []), .ok (.txa, []), .ok (.styAbs 0x1234, []), .ok (.staAbs 0x1234, []),
      .ok (.stxAbs 0x1234, []), .ok (.saxAbs 0x1234, [])] := by rfl
theorem test_decode_row9 :
    ([
      [0x90, 0x34], [0x91, 0x34], [0x94, 0x34], [0x95, 0x34], [0x96, 0x34], [0x97, 0x34], [0x98], [0x99, 0x34, 0x12],
      [0x9A], [0x9D, 0x34, 0x12]] : List (List Byte)).map decode = [
      .ok (.bcc 52, []), .ok (.staIndY 0x34, []), .ok (.styZpX 0x34, []), .ok (.staZpX 0x34, []),
      .ok (.stxZpY 0x34, []), .ok (.saxZpY 0x34, []), .ok (.tya, []), .ok (.staAbsY 0x1234, []), .ok (.txs, []),
      .ok (.staAbsX 0x1234, [])] := by rfl
theorem test_decode_rowA :
    ([
      [0xA0, 0x34], [0xA1, 0x34], [0xA2, 0x34], [0xA3, 0x34], [0xA4, 0x34], [0xA5, 0x34], [0xA6, 0x34], [0xA7, 0x34],
      [0xA8], [0xA9, 0x34], [0xAA], [0xAC, 0x34, 0x12], [0xAD, 0x34, 0x12], [0xAE, 0x34, 0x12], [0xAF, 0x34, 0x12]] : List (List Byte)).map decode = [
      .ok (.ldyImm 0x34, []), .ok (.ldaIndX 0x34, []), .ok (.ldxImm 0x34, []), .ok (.laxIndX 0x34, []),
      .ok (.ldyZp 0x34, []), .ok (.ldaZp 0x34, []), .ok (.ldxZp 0x34, []), .ok (.laxZp 0x34, []), .ok (.tay, []),
      .ok (.ldaImm 0x34, []), .ok (.tax, []), .ok (.ldyAbs 0x1234, []), .ok (.ldaAbs 0x1234, []),
      .ok (.ldxAbs 0x1234, []), .ok (.laxAbs 0x1234, [])] := by rfl
theorem test_decode_rowB :
    ([
      [0xB0, 0x34], [0xB1, 0x34], [0xB3, 0x34], [0xB4, 0x34], [0xB5, 0x34], [0xB6, 0x34], [0xB7, 0x34], [0xB8],
      [0xB9, 0x34, 0x12], [0xBA], [0xBC, 0x34, 0x12], [0xBD, 0x34, 0x12], [0xBE, 0x34, 0x12], [0xBF, 0x34, 0x12]] : List (List Byte)).map decode = [
      .ok (.bcs 52, []), .ok (.ldaIndY 0x34, []), .ok (.laxIndY 0x34, []), .ok (.ldyZpX 0x34, []),
      .ok (.ldaZpX 0x34, []), .ok (.ldxZpY 0x34, []), .ok (.laxZpY 0x34, []), .ok (.clv, []),
      .ok (.ldaAbsY 0x1234, []), .ok (.tsx, []), .ok (.ldyAbsX 0x1234, []), .ok (.ldaAbsX 0x1234, []),
      .ok (.ldxAbsY 0x1234, []), .ok (.laxAbsY 0x1234, [])] := by rfl
theorem test_decode_rowC :
    ([
      [0xC0, 0x34], [0xC1, 0x34], [0xC2, 0x34], [0xC3, 0x34], [0xC4, 0x34], [0xC5, 0x34], [0xC6, 0x34], [0xC7, 0x34],
      [0xC8], [0xC9, 0x34], [0xCA], [0xCB, 0x34], [0xCC, 0x34, 0x12], [0xCD, 0x34, 0x12], [0xCE, 0x34, 0x12],
      [0xCF, 0x34, 0x12]] : List (List Byte)).map decode = [
      .ok (.cpyImm 0x34, []), .ok (.cmpIndX 0x34, []), .ok (.skbImmC2 0x34, []), .ok (.dcpIndX 0x34, []),
      .ok (.cpyZp 0x34, []), .ok (.cmpZp 0x34, []), .ok (.decZp 0x34, []), .ok (.dcpZp 0x34, []), .ok (.iny, []),
      .ok (.cmpImm 0x34, []), .ok (.dex, []), .ok (.axsImm 0x34, []), .ok (.cpyAbs 0x1234, []),
      .ok (.cmpAbs 0x1234, []), .ok (.decAbs 0x1234, []), .ok (.dcpAbs 0x1234, [])] := by rfl
theorem test_decode_rowD :
    ([
      [0xD0, 0x34], [0xD1, 0x34], [0xD3, 0x34], [0xD4, 0x34], [0xD5, 0x34], [0xD6, 0x34], [0xD7, 0x34], [0xD8],
      [0xD9, 0x34, 0x12], [0xDB, 0x34, 0x12], [0xDC, 0x34, 0x12], [0xDD, 0x34, 0x12], [0xDE, 0x34, 0x12],
      [0xDF, 0x34, 0x12]] : List (List Byte)).map decode = [
      .ok (.bne 52, []), .ok (.cmpIndY 0x34, []), .ok (.dcpIndY 0x34, []), .ok (.ignZpXD4 0x34, []),
      .ok (.cmpZpX 0x34, []), .ok (.decZpX 0x34, []), .ok (.dcpZpX 0x34, []), .ok (.cld, []),
      .ok (.cmpAbsY 0x1234, []), .ok (.dcpAbsY 0x1234, []), .ok (.ignAbsXDC 0x1234, []), .ok (.cmpAbsX 0x1234, []),
      .ok (.decAbsX 0x1234, []), .ok (.dcpAbsX 0x1234, [])] := by rfl
theorem test_decode_rowE :
    ([
      [0xE0, 0x34], [0xE1, 0x34], [0xE2, 0x34], [0xE3, 0x34], [0xE4, 0x34], [0xE5, 0x34], [0xE6, 0x34], [0xE7, 0x34],
      [0xE8], [0xE9, 0x34], [0xEA], [0xEC, 0x34, 0x12], [0xED, 0x34, 0x12], [0xEE, 0x34, 0x12], [0xEF, 0x34, 0x12]] : List (List Byte)).map decode = [
      .ok (.cpxImm 0x34, []), .ok (.sbcIndX 0x34, []), .ok (.skbImmE2 0x34, []), .ok (.iscIndX 0x34, []),
      .ok (.cpxZp 0x34, []), .ok (.sbcZp 0x34, []), .ok (.incZp 0x34, []), .ok (.iscZp 0x34, []), .ok (.inx, []),
      .ok (.sbcImm 0x34, []), .ok (.nop, []), .ok (.cpxAbs 0x1234, []), .ok (.sbcAbs 0x1234, []),
      .ok (.incAbs 0x1234, []), .ok (.iscAbs 0x1234, [])] := by rfl
theorem test_decode_rowF :
    ([
      [0xF0, 0x34], [0xF1, 0x34], [0xF3, 0x34], [0xF4, 0x34], [0xF5, 0x34], [0xF6, 0x34], [0xF7, 0x34], [0xF8],
      [0xF9, 0x34, 0x12], [0xFB, 0x34, 0x12], [0xFC, 0x34, 0x12], [0xFD, 0x34, 0x12], [0xFE, 0x34, 0x12],
      [0xFF, 0x34, 0x12]] : List (List Byte)).map decode = [
      .ok (.beq 52, []), .ok (.sbcIndY 0x34, []), .ok (.iscIndY 0x34, []), .ok (.ignZpXF4 0x34, []),
      .ok (.sbcZpX 0x34, []), .ok (.incZpX 0x34, []), .ok (.iscZpX 0x34, []), .ok (.sed, []),
      .ok (.sbcAbsY 0x1234, []), .ok (.iscAbsY 0x1234, []), .ok (.ignAbsXFC 0x1234, []), .ok (.sbcAbsX 0x1234, []),
      .ok (.incAbsX 0x1234, []), .ok (.iscAbsX 0x1234, [])] := by rfl

theorem test_decode_displacement : decode [0xD0, 0x80] = .ok (.bne (-128), []) ∧ decode [0xD0, 0xFF] = .ok (.bne (-1), []) := by
  exact ⟨rfl, rfl⟩
theorem test_decode_unassigned : decode [0x02, 0x34, 0x12] = .error (.unassigned 0x02) := by rfl
theorem test_decode_truncated : decode [0xAD, 0x34] = .error (.truncated 0xAD) := by rfl
theorem test_decodeTableWord : decodeTableWord 24 0x1234AD = some (.ldaAbs 0x1234) ∧ decodeTableWord 8 0x00 = some .brk := by
  exact ⟨rfl, rfl⟩
theorem test_withFetchWord :
    after (fun t => (t.a, t.pc)) (State.reset.withFetchWord 16 0x05A9) = some (0x05, 0x0002) := by decide

/-! One step each: the vectors of 95_test_vectors.md part 2 (at most one per row of the opcode table). -/

/-- A1 ADC #$50 -/
theorem test_A1 : after (fun t => (t.a, t.p)) (load [0x69, 0x50] [] { base with a := 0x50 })
    = some (0xA0, 0xE4) := by decide
/-- A8 ADC $10 -/
theorem test_A8 : after (fun t => (t.a, t.pc)) (load [0x65, 0x10] [(0x0010, 0x02)] { base with a := 0x01 })
    = some (0x03, 0x8002) := by decide
/-- A9 ADC $F0,X -/
theorem test_A9 : after (fun t => (t.a, t.pc)) (load [0x75, 0xF0] [(0x0010, 0x02)] { base with a := 0x01, x := 0x20 })
    = some (0x03, 0x8002) := by decide
/-- A10 ADC $1234 -/
theorem test_A10 : after (fun t => (t.a, t.p)) (load [0x6D, 0x34, 0x12] [(0x1234, 0x7F)] { base with a := 0x01 })
    = some (0x80, 0xE4) := by decide
/-- A11 ADC $12F0,X -/
theorem test_A11 : after (fun t => (t.a, t.cycles)) (load [0x7D, 0xF0, 0x12] [(0x1310, 0x03)] { base with a := 0x01, x := 0x20 })
    = some (0x04, 4) := by decide
/-- A12 ADC $12F0,Y -/
theorem test_A12 : after (fun t => (t.a, t.pc)) (load [0x79, 0xF0, 0x12] [(0x12FF, 0x03)] { base with a := 0x01, y := 0x0F })
    = some (0x04, 0x8003) := by decide
/-- A13 ADC ($FE,X) -/
theorem test_A13 : after (fun t => (t.a, t.pc)) (load [0x61, 0xFE] [(0x0000, 0x30), (0x00FF, 0x00), (0x3000, 0x10)] { base with a := 0x01, x := 0x01 })
    = some (0x11, 0x8002) := by decide
/-- A14 ADC ($40),Y -/
theorem test_A14 : after (fun t => (t.a, t.cycles)) (load [0x71, 0x40] [(0x0040, 0xF8), (0x0041, 0x40), (0x4108, 0x10)] { base with a := 0x01, y := 0x10 })
    = some (0x11, 5) := by decide
/-- A15 SBC #$F0 -/
theorem test_A15 : after (fun t => (t.a, t.p)) (load [0xE9, 0xF0] [] { base with a := 0x50, p := 0x25 })
    = some (0x60, 0x24) := by decide
/-- A22 AND #$0F -/
theorem test_A22 : after (fun t => (t.a, t.p)) (load [0x29, 0x0F] [] { base with a := 0xF0 })
    = some (0x00, 0x26) := by decide
/-- A24 EOR #$FF -/
theorem test_A24 : after (fun t => (t.a, t.p)) (load [0x49, 0xFF] [] { base with a := 0x55 })
    = some (0xAA, 0xA4) := by decide
/-- A26 ORA #$80 -/
theorem test_A26 : after (fun t => (t.a, t.p)) (load [0x09, 0x80] [] { base with a := 0x01 })
    = some (0x81, 0xA4) := by decide
/-- H1 ASL A -/
theorem test_H1 : after (fun t => (t.a, t.p)) (load [0x0A] [] { base with a := 0x80 })
    = some (0x00, 0x27) := by decide
/-- H3 ASL $10 -/
theorem test_H3 : after (fun t => (byteAt t 0x0010, t.p)) (load [0x06, 0x10] [(0x0010, 0xC0)] base)
    = some (0x80, 0xA5) := by decide
/-- H4 ASL $12FF,X -/
theorem test_H4 : after (fun t => (byteAt t 0x1300, t.pc)) (load [0x1E, 0xFF, 0x12] [(0x1300, 0x01)] { base with x := 0x01 })
    = some (0x02, 0x8003) := by decide
/-- H5 LSR A -/
theorem test_H5 : after (fun t => (t.a, t.p)) (load [0x4A] [] { base with a := 0x01 })
    = some (0x00, 0x27) := by decide
/-- H7 LSR $10 -/
theorem test_H7 : after (fun t => (byteAt t 0x0010, t.p)) (load [0x46, 0x10] [(0x0010, 0xFF)] base)
    = some (0x7F, 0x25) := by decide
/-- H9 ROL A -/
theorem test_H9 : after (fun t => (t.a, t.p)) (load [0x2A] [] { base with a := 0x40, p := 0x25 })
    = some (0x81, 0xA4) := by decide
/-- H10 ROL $0200 -/
theorem test_H10 : after (fun t => (byteAt t 0x0200, t.p)) (load [0x2E, 0x00, 0x02] [(0x0200, 0x80)] base)
    = some (0x00, 0x27) := by decide
/-- H11 ROR A -/
theorem test_H11 : after (fun t => (t.a, t.p)) (load [0x6A] [] { base with a := 0x01 })
    = some (0x00, 0x27) := by decide
/-- H13 ROR $10,X -/
theorem test_H13 : after (fun t => (byteAt t 0x0015, t.p)) (load [0x76, 0x10] [(0x0015, 0x02)] { base with x := 0x05, p := 0x25 })
    = some (0x81, 0xA4) := by decide
/-- H14 INC $10 -/
theorem test_H14 : after (fun t => (byteAt t 0x0010, t.p)) (load [0xE6, 0x10] [(0x0010, 0xFF)] base)
    = some (0x00, 0x26) := by decide
/-- H16 INC $00FF,X -/
theorem test_H16 : after (fun t => (byteAt t 0x0100, t.pc)) (load [0xFE, 0xFF, 0x00] [(0x0100, 0x41)] { base with x := 0x01 })
    = some (0x42, 0x8003) := by decide
/-- H17 DEC $10 -/
theorem test_H17 : after (fun t => (byteAt t 0x0010, t.p)) (load [0xC6, 0x10] [(0x0010, 0x00)] base)
    = some (0xFF, 0xA4) := by decide
/-- H18 DEC $0200 -/
theorem test_H18 : after (fun t => (byteAt t 0x0200, t.p)) (load [0xCE, 0x00, 0x02] [(0x0200, 0x01)] base)
    = some (0x00, 0x26) := by decide
/-- H19 INX -/
theorem test_H19 : after (fun t => (t.x, t.p)) (load [0xE8] [] { base with x := 0xFF })
    = some (0x00, 0x26) := by decide
/-- H20 INY -/
theorem test_H20 : after (fun t => (t.y, t.p)) (load [0xC8] [] { base with y := 0x7F })
    = some (0x80, 0xA4) := by decide
/-- H21 DEX -/
theorem test_H21 : after (fun t => (t.x, t.p)) (load [0xCA] [] base)
    = some (0xFF, 0xA4) := by decide
/-- H22 DEY -/
theorem test_H22 : after (fun t => (t.y, t.p)) (load [0x88] [] { base with y := 0x01 })
    = some (0x00, 0x26) := by decide
/-- L1 LDA #$00 -/
theorem test_L1 : after (fun t => (t.a, t.p)) (load [0xA9, 0x00] [] { base with a := 0x55 })
    = some (0x00, 0x26) := by decide
/-- L3 LDA $10 -/
theorem test_L3 : after (fun t => (t.a, t.p)) (load [0xA5, 0x10] [(0x0010, 0x7F)] { base with p := 0xA6 })
    = some (0x7F, 0x24) := by decide
/-- L4 LDA $FF,X -/
theorem test_L4 : after (fun t => (t.a, t.pc)) (load [0xB5, 0xFF] [(0x0001, 0x11), (0x0101, 0x22)] { base with x := 0x02 })
    = some (0x11, 0x8002) := by decide
/-- L5 LDA $00FF,X -/
theorem test_L5 : after (fun t => (t.a, t.cycles)) (load [0xBD, 0xFF, 0x00] [(0x0100, 0x77)] { base with x := 0x01 })
    = some (0x77, 4) := by decide
/-- L7 LDA $FFFF,Y -/
theorem test_L7 : after (fun t => (t.a, t.cycles)) (load [0xB9, 0xFF, 0xFF] [(0x0000, 0x5A)] { base with y := 0x01 })
    = some (0x5A, 4) := by decide
/-- L8 LDA ($20,X) -/
theorem test_L8 : after (fun t => (t.a, t.p)) (load [0xA1, 0x20] [(0x0024, 0x74), (0x0025, 0x20), (0x2074, 0x99)] { base with x := 0x04 })
    = some (0x99, 0xA4) := by decide
/-- L10 LDA ($40),Y -/
theorem test_L10 : after (fun t => (t.a, t.cycles)) (load [0xB1, 0x40] [(0x0040, 0xF8), (0x0041, 0x40), (0x4108, 0x33)] { base with y := 0x10 })
    = some (0x33, 5) := by decide
/-- L13 LDX #$00 -/
theorem test_L13 : after (fun t => (t.x, t.p)) (load [0xA2, 0x00] [] { base with x := 0x01 })
    = some (0x00, 0x26) := by decide
/-- L14 LDX $80,Y -/
theorem test_L14 : after (fun t => (t.x, t.p)) (load [0xB6, 0x80] [(0x0010, 0xEE)] { base with y := 0x90 })
    = some (0xEE, 0xA4) := by decide
/-- L15 LDX $20F0,Y -/
theorem test_L15 : after (fun t => (t.x, t.cycles)) (load [0xBE, 0xF0, 0x20] [(0x2110, 0x01)] { base with y := 0x20 })
    = some (0x01, 4) := by decide
/-- L16 LDY #$FF -/
theorem test_L16 : after (fun t => (t.y, t.p)) (load [0xA0, 0xFF] [] base)
    = some (0xFF, 0xA4) := by decide
/-- L17 LDY $2080,X -/
theorem test_L17 : after (fun t => (t.p, t.pc)) (load [0xBC, 0x80, 0x20] [(0x20FF, 0x00)] { base with x := 0x7F })
    = some (0x26, 0x8003) := by decide
/-- L18 STA $10 -/
theorem test_L18 : after (fun t => (byteAt t 0x0010, t.pc)) (load [0x85, 0x10] [] { base with a := 0x05 })
    = some (0x05, 0x8002) := by decide
/-- L19 STA $FF,X -/
theorem test_L19 : after (fun t => (byteAt t 0x0000, t.pc)) (load [0x95, 0xFF] [] { base with a := 0xAA, x := 0x01 })
    = some (0xAA, 0x8002) := by decide
/-- L20 STA $0200 -/
theorem test_L20 : after (fun t => (t.cycles, t.pc)) (load [0x8D, 0x00, 0x02] [] { base with p := 0xA4 })
    = some (3, 0x8003) := by decide
/-- L21 STA $00FF,X -/
theorem test_L21 : after (fun t => (byteAt t 0x0100, t.pc)) (load [0x9D, 0xFF, 0x00] [] { base with a := 0x42, x := 0x01 })
    = some (0x42, 0x8003) := by decide
/-- L22 STA $0200,Y -/
theorem test_L22 : after (fun t => (byteAt t 0x0201, t.pc)) (load [0x99, 0x00, 0x02] [] { base with a := 0x42, y := 0x01 })
    = some (0x42, 0x8003) := by decide
/-- L23 STA ($20,X) -/
theorem test_L23 : after (fun t => (byteAt t 0x2074, t.pc)) (load [0x81, 0x20] [(0x0024, 0x74), (0x0025, 0x20)] { base with a := 0x42, x := 0x04 })
    = some (0x42, 0x8002) := by decide
/-- L24 STA ($40),Y -/
theorem test_L24 : after (fun t => (byteAt t 0x4108, t.pc)) (load [0x91, 0x40] [(0x0040, 0xF8), (0x0041, 0x40)] { base with a := 0x42, y := 0x10 })
    = some (0x42, 0x8002) := by decide
/-- L25 STX $10 -/
theorem test_L25 : after (fun t => (byteAt t 0x0010, t.pc)) (load [0x86, 0x10] [] { base with x := 0x80 })
    = some (0x80, 0x8002) := by decide
/-- L26 STX $FF,Y -/
theorem test_L26 : after (fun t => (byteAt t 0x0001, t.pc)) (load [0x96, 0xFF] [] { base with x := 0x33, y := 0x02 })
    = some (0x33, 0x8002) := by decide
/-- L27 STX $1234 -/
theorem test_L27 : after (fun t => (t.cycles, t.pc)) (load [0x8E, 0x34, 0x12] [] base)
    = some (3, 0x8003) := by decide
/-- L28 STY $10 -/
theorem test_L28 : after (fun t => (byteAt t 0x0010, t.pc)) (load [0x84, 0x10] [] { base with y := 0x07 })
    = some (0x07, 0x8002) := by decide
/-- L29 STY $10,X -/
theorem test_L29 : after (fun t => (byteAt t 0x0015, t.pc)) (load [0x94, 0x10] [] { base with x := 0x05, y := 0x07 })
    = some (0x07, 0x8002) := by decide
/-- L30 STY $1234 -/
theorem test_L30 : after (fun t => (byteAt t 0x1234, t.pc)) (load [0x8C, 0x34, 0x12] [] { base with y := 0xFF })
    = some (0xFF, 0x8003) := by decide
/-- G1 SEC -/
theorem test_G1 : after (fun t => (t.p, t.pc)) (load [0x38] [] base)
    = some (0x25, 0x8001) := by decide
/-- G2 CLC -/
theorem test_G2 : after (fun t => (t.p, t.pc)) (load [0x18] [] { base with p := 0xE7 })
    = some (0xE6, 0x8001) := by decide
/-- G3 SED -/
theorem test_G3 : after (fun t => (t.p, t.pc)) (load [0xF8] [] base)
    = some (0x2C, 0x8001) := by decide
/-- G4 CLD -/
theorem test_G4 : after (fun t => (t.p, t.pc)) (load [0xD8] [] { base with p := 0x2C })
    = some (0x24, 0x8001) := by decide
/-- G5 SEI -/
theorem test_G5 : after (fun t => (t.p, t.pc)) (load [0x78] [] { base with p := 0x20 })
    = some (0x24, 0x8001) := by decide
/-- G6 CLI -/
theorem test_G6 : after (fun t => (t.p, t.pc)) (load [0x58] [] base)
    = some (0x20, 0x8001) := by decide
/-- G7 CLV -/
theorem test_G7 : after (fun t => (t.p, t.pc)) (load [0xB8] [] { base with p := 0x64 })
    = some (0x24, 0x8001) := by decide
/-- G9 CMP #$05 -/
theorem test_G9 : after (fun t => (t.p, t.pc)) (load [0xC9, 0x05] [] { base with a := 0x05 })
    = some (0x27, 0x8002) := by decide
/-- G15 CMP $00FF,X -/
theorem test_G15 : after (fun t => (t.p, t.cycles)) (load [0xDD, 0xFF, 0x00] [(0x0100, 0x10)] { base with a := 0x10, x := 0x01 })
    = some (0x27, 4) := by decide
/-- G16 CPX #$10 -/
theorem test_G16 : after (fun t => (t.p, t.pc)) (load [0xE0, 0x10] [] { base with x := 0x10 })
    = some (0x27, 0x8002) := by decide
/-- G17 CPX $10 -/
theorem test_G17 : after (fun t => (t.p, t.pc)) (load [0xE4, 0x10] [(0x0010, 0x01)] base)
    = some (0xA4, 0x8002) := by decide
/-- G18 CPX $0200 -/
theorem test_G18 : after (fun t => (t.p, t.pc)) (load [0xEC, 0x00, 0x02] [(0x0200, 0x7F)] { base with x := 0xFF })
    = some (0xA5, 0x8003) := by decide
/-- G19 CPY #$00 -/
theorem test_G19 : after (fun t => (t.p, t.pc)) (load [0xC0, 0x00] [] base)
    = some (0x27, 0x8002) := by decide
/-- G20 CPY $10 -/
theorem test_G20 : after (fun t => (t.p, t.pc)) (load [0xC4, 0x10] [(0x0010, 0x80)] { base with y := 0x7F })
    = some (0xA4, 0x8002) := by decide
/-- G21 CPY $0200 -/
theorem test_G21 : after (fun t => (t.p, t.pc)) (load [0xCC, 0x00, 0x02] [(0x0200, 0x01)] { base with y := 0x02 })
    = some (0x25, 0x8003) := by decide
/-- J1 JMP $9000 -/
theorem test_J1 : after (fun t => (t.cycles, t.pc)) (load [0x4C, 0x00, 0x90] [] base)
    = some (2, 0x9000) := by decide
/-- J2 JMP ($0120) -/
theorem test_J2 : after (fun t => (t.cycles, t.pc)) (load [0x6C, 0x20, 0x01] [(0x0120, 0xFC), (0x0121, 0xBA)] base)
    = some (4, 0xBAFC) := by decide
/-- J5 JSR $9000 -/
theorem test_J5 : after (fun t => (byteAt t 0x01FC, byteAt t 0x01FD)) (load [0x20, 0x00, 0x90] [] base)
    = some (0x02, 0x80) := by decide
/-- J7 RTS -/
theorem test_J7 : after (fun t => (t.sp, t.pc)) (load [0x60] [(0x01FC, 0x02), (0x01FD, 0x80)] { base with sp := 0xFB, pc := 0x9000 })
    = some (0xFD, 0x8003) := by decide
/-- J9 RTI -/
theorem test_J9 : after (fun t => (t.sp, t.p)) (load [0x40] [(0x01FB, 0xE1), (0x01FC, 0x34), (0x01FD, 0x12)] { base with sp := 0xFA, pc := 0x9000 })
    = some (0xFD, 0xE1) := by decide
/-- J11 BCC $8007 -/
theorem test_J11 : after (fun t => (t.cycles, t.pc)) (load [0x90, 0x05] [] base)
    = some (2, 0x8007) := by decide
/-- J13 BCS $8007 -/
theorem test_J13 : after (fun t => (t.cycles, t.pc)) (load [0xB0, 0x05] [] { base with p := 0x25 })
    = some (2, 0x8007) := by decide
/-- J14 BEQ $8014 -/
theorem test_J14 : after (fun t => (t.cycles, t.pc)) (load [0xF0, 0x10] [] { base with p := 0x27, pc := 0x8002 })
    = some (2, 0x8014) := by decide
/-- J15 BNE $8003 -/
theorem test_J15 : after (fun t => (t.cycles, t.pc)) (load [0xD0, 0xFC] [] { base with pc := 0x8005 })
    = some (2, 0x8003) := by decide
/-- J17 BMI $8112 -/
theorem test_J17 : after (fun t => (t.cycles, t.pc)) (load [0x30, 0x20] [] { base with p := 0xA4, pc := 0x80F0 })
    = some (3, 0x8112) := by decide
/-- J18 BPL $7F82 -/
theorem test_J18 : after (fun t => (t.cycles, t.pc)) (load [0x10, 0x80] [] base)
    = some (3, 0x7F82) := by decide
/-- J19 BVC $8004 -/
theorem test_J19 : after (fun t => (t.cycles, t.pc)) (load [0x50, 0x02] [] { base with p := 0x64 })
    = some (1, 0x8002) := by decide
/-- J20 BVS $8004 -/
theorem test_J20 : after (fun t => (t.cycles, t.pc)) (load [0x70, 0x02] [] { base with p := 0x64 })
    = some (2, 0x8004) := by decide
/-- K1 PHA -/
theorem test_K1 : after (fun t => (byteAt t 0x01FD, t.sp)) (load [0x48] [] { base with a := 0x42 })
    = some (0x42, 0xFC) := by decide
/-- K3 PHP -/
theorem test_K3 : after (fun t => (byteAt t 0x01FD, t.sp)) (load [0x08] [] base)
    = some (0x34, 0xFC) := by decide
/-- K5 PLA -/
theorem test_K5 : after (fun t => (t.a, t.sp)) (load [0x68] [(0x01FD, 0x00)] { base with a := 0x55, sp := 0xFC })
    = some (0x00, 0xFD) := by decide
/-- K8 PLP -/
theorem test_K8 : after (fun t => (t.sp, t.p)) (load [0x28] [(0x01FD, 0xFF)] { base with sp := 0xFC })
    = some (0xFD, 0xEF) := by decide
/-- K10 TAX -/
theorem test_K10 : after (fun t => (t.x, t.p)) (load [0xAA] [] { base with a := 0x80 })
    = some (0x80, 0xA4) := by decide
/-- K11 TAY -/
theorem test_K11 : after (fun t => (t.y, t.p)) (load [0xA8] [] { base with y := 0x01 })
    = some (0x00, 0x26) := by decide
/-- K12 TSX -/
theorem test_K12 : after (fun t => (t.x, t.p)) (load [0xBA] [] base)
    = some (0xFD, 0xA4) := by decide
/-- K13 TXA -/
theorem test_K13 : after (fun t => (t.a, t.p)) (load [0x8A] [] { base with x := 0x7F, p := 0xA6 })
    = some (0x7F, 0x24) := by decide
/-- K14 TXS -/
theorem test_K14 : after (fun t => (t.sp, t.pc)) (load [0x9A] [] base)
    = some (0x00, 0x8001) := by decide
/-- K16 TYA -/
theorem test_K16 : after (fun t => (t.a, t.p)) (load [0x98] [] { base with y := 0xFF })
    = some (0xFF, 0xA4) := by decide
/-- Y1 BRK -/
theorem test_Y1 : after (fun t => (byteAt t 0x01FB, byteAt t 0x01FC)) (load [0x00] [(0xFFFE, 0x00), (0xFFFF, 0x90)] base)
    = some (0x34, 0x02) := by decide
/-- Y3 BIT $10 -/
theorem test_Y3 : after (fun t => (t.p, t.pc)) (load [0x24, 0x10] [(0x0010, 0x41)] { base with a := 0x01 })
    = some (0x64, 0x8002) := by decide
/-- Y5 BIT $2000 -/
theorem test_Y5 : after (fun t => (t.p, t.pc)) (load [0x2C, 0x00, 0x20] [(0x2000, 0x01)] { base with a := 0xFF, p := 0xE6 })
    = some (0x24, 0x8003) := by decide
/-- Y7 NOP -/
theorem test_Y7 : after (fun t => (t.cycles, t.pc)) (load [0xEA] [] { base with a := 0x12, x := 0x34, y := 0x56, p := 0xE7 })
    = some (1, 0x8001) := by decide
/-- U1 ALR #$03 -/
theorem test_U1 : after (fun t => (t.cycles, t.pc)) (load [0x4B, 0x03] [] { base with a := 0xFF })
    = some (1, 0x8002) := by decide
/-- U6 LAX ($40),Y -/
theorem test_U6 : after (fun t => (t.cycles, t.pc)) (load [0xB3, 0x40] [(0x0040, 0xF8), (0x0041, 0x40), (0x4108, 0x33)] { base with y := 0x10 })
    = some (4, 0x8002) := by decide
/-- U16 IGN $12FF,X -/
theorem test_U16 : after (fun t => (t.cycles, t.pc)) (load [0x1C, 0xFF, 0x12] [(0x1300, 0x77)] { base with x := 0x01 })
    = some (3, 0x8003) := by decide
/-- V1 ALR #$03 -/
theorem test_V1 : after (fun t => (t.a, t.p)) (load [0x4B, 0x03] [] (full { base with a := 0xFF }))
    = some (0x01, 0x25) := by decide
/-- V2 ANC #$80 -/
theorem test_V2 : after (fun t => (t.a, t.p)) (load [0x0B, 0x80] [] (full { base with a := 0xF0 }))
    = some (0x80, 0xA5) := by decide
/-- V3 ARR #$FF -/
theorem test_V3 : after (fun t => (t.p, t.pc)) (load [0x6B, 0xFF] [] (full { base with a := 0xFF, p := 0x25 }))
    = some (0xA5, 0x8002) := by decide
/-- V4 AXS #$01 -/
theorem test_V4 : after (fun t => (t.x, t.p)) (load [0xCB, 0x01] [] (full { base with a := 0xFF, x := 0x10 }))
    = some (0x0F, 0x25) := by decide
/-- V5 LAX $10 -/
theorem test_V5 : after (fun t => (t.a, t.x)) (load [0xA7, 0x10] [(0x0010, 0x80)] (full base))
    = some (0x80, 0x80) := by decide
/-- V6 LAX ($40),Y -/
theorem test_V6 : after (fun t => (t.a, t.cycles)) (load [0xB3, 0x40] [(0x0040, 0xF8), (0x0041, 0x40), (0x4108, 0x33)] (full { base with y := 0x10 }))
    = some (0x33, 5) := by decide
/-- V7 SAX $10 -/
theorem test_V7 : after (fun t => (byteAt t 0x0010, t.pc)) (load [0x87, 0x10] [] (full { base with a := 0xF0, x := 0x3C }))
    = some (0x30, 0x8002) := by decide
/-- V8 DCP $10 -/
theorem test_V8 : after (fun t => (byteAt t 0x0010, t.p)) (load [0xC7, 0x10] [(0x0010, 0x06)] (full { base with a := 0x05 }))
    = some (0x05, 0x27) := by decide
/-- V9 ISC $10 -/
theorem test_V9 : after (fun t => (byteAt t 0x0010, t.a)) (load [0xE7, 0x10] [(0x0010, 0x04)] (full { base with a := 0x10, p := 0x25 }))
    = some (0x05, 0x0B) := by decide
/-- V10 RLA $10 -/
theorem test_V10 : after (fun t => (byteAt t 0x0010, t.a)) (load [0x27, 0x10] [(0x0010, 0x40)] (full { base with a := 0xFF, p := 0x25 }))
    = some (0x81, 0x81) := by decide
/-- V11 RRA $10 -/
theorem test_V11 : after (fun t => (byteAt t 0x0010, t.a)) (load [0x67, 0x10] [(0x0010, 0x03)] (full { base with a := 0x01 }))
    = some (0x01, 0x03) := by decide
/-- V12 SLO $10 -/
theorem test_V12 : after (fun t => (byteAt t 0x0010, t.a)) (load [0x07, 0x10] [(0x0010, 0x81)] (full { base with a := 0x01 }))
    = some (0x02, 0x03) := by decide
/-- V13 SRE $10 -/
theorem test_V13 : after (fun t => (byteAt t 0x0010, t.a)) (load [0x47, 0x10] [(0x0010, 0x03)] (full { base with a := 0xFF }))
    = some (0x01, 0xFE) := by decide
/-- V14 SKB #$FF -/
theorem test_V14 : after (fun t => (t.cycles, t.pc)) (load [0x80, 0xFF] [] (full base))
    = some (1, 0x8002) := by decide
/-- V15 IGN $1234 -/
theorem test_V15 : after (fun t => (t.cycles, t.pc)) (load [0x0C, 0x34, 0x12] [(0x1234, 0x77)] (full base))
    = some (3, 0x8003) := by decide
/-- V16 IGN $12FF,X -/
theorem test_V16 : after (fun t => (t.cycles, t.pc)) (load [0x1C, 0xFF, 0x12] [(0x1300, 0x77)] (full { base with x := 0x01 }))
    = some (4, 0x8003) := by decide
/-- V17 DCP ($20,X) -/
theorem test_V17 : after (fun t => (byteAt t 0x2074, t.p)) (load [0xC3, 0x20] [(0x0024, 0x74), (0x0025, 0x20), (0x2074, 0x43)] (full { base with a := 0x42, x := 0x04 }))
    = some (0x42, 0x27) := by decide
/-- V18 DCP $12FF,Y -/
theorem test_V18 : after (fun t => (byteAt t 0x1300, t.p)) (load [0xDB, 0xFF, 0x12] [(0x1300, 0x01)] (full { base with y := 0x01 }))
    = some (0x00, 0x27) := by decide
/-! The host's calls: vectors of 95_test_vectors.md part 3. -/

/-- X1: reset() reads the vector low byte first and leaves seven clocks. -/
theorem test_X1 : after (fun t => (t.pc, t.cycles, t.busOps))
    (load [] [(0xFFFC, 0x00), (0xFFFD, 0x80)] { base with pc := 0x1234, cycles := 3, inputs := [.reset] })
    = some (0x8000, 7, [.read 0xFFFC 0x00, .read 0xFFFD 0x80]) := by decide
/-- X3: IRQ pushes P with bit 4 clear and bit 5 set, then sets I. -/
theorem test_X3 : after (fun t => (t.p, byteAt t 0x01FB))
    (load [] [(0xFFFF, 0x90)] { base with p := 0xE3, pc := 0x8003, inputs := [.irq] }) = some (0xE7, 0xE3) := by decide
/-- X4: a masked IRQ does nothing. -/
theorem test_X4 : after (fun t => (t.pc, t.busOps)) { base with inputs := [.irq] } = some (0x8000, []) := by decide
/-- X6: NMI with the pushes wrapping inside page 1. -/
theorem test_X6 : after (fun t => (t.sp, byteAt t 0x01FF))
    (load [] [(0xFFFB, 0x02)] { base with sp := 0x01, p := 0x20, pc := 0xFFFF, inputs := [.nmi] }) = some (0xFE, 0x20) := by decide
/-- X7: an unassigned byte. -/
theorem test_X7 : faultOf (load [0x02] [] { base with a := 0x77 }) = some (.decodeFailure 0x02 0x8000) := by decide
/-- X7: what the fault leaves: the one opcode read, the sticky bit. -/
theorem test_X7_left : (fun t : State => (t.faulted, t.busOps, t.a, t.pc)) (settle (load [0x02] [] { base with a := 0x77 })
    (step (load [0x02] [] { base with a := 0x77 }))) = (true, [.read 0x8000 0x02], 0x77, 0x8000) := by decide
/-- X9: an unofficial byte under UNOFFICIAL_EXEC = fault. -/
theorem test_X9 : faultOf (load [0xA7] [] { base with params := { State.powerOn.params with unofficialExec := .fault } })
    = some (.decodeFailure 0xA7 0x8000) := by decide
/-- F2: after a store the first fetch() reads the stored byte once. -/
theorem test_F2 : after (fun t => (t.fetched, t.busOps))
    (load [0x85, 0x10] [(0x0010, 0x99)] { base with
      opcode := 0x85, instrLatched := true, addressAbsolute := 0x0010, inputs := [.fetch] })
    = some (0x99, [.read 0x0010 0x99]) := by decide
/-- F6: after an Implied instruction fetch() makes no bus access. -/
theorem test_F6 : after (fun t => (t.fetched, t.busOps))
    { base with opcode := 0xEA, fetched := 0x42, instrLatched := true, inputs := [.fetch] } = some (0x42, []) := by decide
/-- F8: fetch() before any instruction. -/
theorem test_F8 : faultOf { base with inputs := [.fetch] } = some (.invariantViolation .fetchWithoutInstruction) := by decide
/-- 60_exceptions.md R271: an interrupt call in the middle of an instruction. -/
theorem test_interrupt_midInstruction :
    faultOf { base with cycles := 1, inputs := [.nmi] } = some (.invariantViolation .interruptMidInstruction) := by decide
/-- 20_memory.md R54: the two absent policies and an ignored write, on a bus that maps nothing. -/
theorem test_absent :
    faultOf { base with params := ⟨.nop, .segmented [], .fault⟩ } = some (.busFault 0x8000) ∧
    after (fun t => (t.opcode, t.mem)) { base with params := ⟨.nop, .segmented [], .defaultByte 0x48⟩ } = some (0x48, []) := by
  decide
theorem test_faulted_refuses : (match step { base with faulted := true } with | .refused r => some r | _ => none)
    = some .blockFaulted := by decide
theorem test_reset_memory_wf : Memory.wf State.reset.mem = true := by decide

/-! Witnesses: for each statement with hypotheses a state and operands that meet them, a conjunct per clause. -/

/-- Canonical memory with its first and last byte listed. -/
def ends : List Host.Cell := [(0, 0x01), (65535, 0x02)]

/-- A state on the flat bus whose memory is not empty. -/
def w : State := { base with mem := ends }

/-- A bus with one RAM page, absent elsewhere. -/
def paged (policy : AbsentPolicy) : Params := ⟨.nop, .segmented [⟨0x8000, 0x80FF, .ram⟩], policy⟩

theorem witness_DecodeEncode :
    (Instr.bne (-128)).wellFormed = true ∧ (Instr.bne 127).wellFormed = true ∧ (Instr.ldaImm 0xFF).wellFormed = true := by
  decide
theorem witness_EncodeDecode :
    decode [0xD0, 0x80] = .ok (.bne (-128), []) ∧ decode [0xD0, 0x7F, 0x00] = .ok (.bne 127, [0x00]) ∧
    decode [0xEA] = .ok (.nop, []) := ⟨rfl, rfl, rfl⟩
theorem witness_UnassignedBytes :
    descriptorOf 0x02 = none ∧ descriptorOf 0xFA = none ∧
    descriptorOf 0x00 = some ⟨.brk, .implied, 7⟩ ∧ Operation.brk.unofficial = false ∧
    descriptorOf 0xFF = some ⟨.isc, .absoluteX, 7⟩ := by decide
theorem witness_LengthByMode :
    Instr.brk.mode = .implied ∧ Instr.aslAcc.mode = .accumulator ∧ (Instr.ldaImm 0).mode = .immediate ∧
    (Instr.jmpInd 0xFFFF).mode = .indirect ∧ (Instr.ldaImm 0x00).opcodeByte = (Instr.ldaImm 0xFF).opcodeByte := by decide
theorem witness_StepRunsInstruction :
    (FlatBus (load [0xA9, 0x05] [] { base with pc := 0xFFFF }) ∧ ClockDue (load [0xA9, 0x05] [] { base with pc := 0xFFFF }) ∧
      (load [0xA9, 0x05] [] { base with pc := 0xFFFF }).cycles = 0 ∧
      decode (instructionBytes (load [0xA9, 0x05] [] { base with pc := 0xFFFF })) = .ok (.ldaImm 0x05, [0x00])) ∧
    ∃ r, ClockDue { base with params := paged .fault, inputs := [.clock] } ∧
      memRead 0x8000 (begun { base with params := paged .fault, inputs := [.clock] }) = .next r ∧
      decode (r.1 :: operandBytesAt 0x8001 r.2) = .ok (.brk, [0x00, 0x00]) :=
  ⟨⟨by decide, by decide, by decide, rfl⟩, _, by decide, rfl, rfl⟩
theorem witness_CountdownToBoundary :
    (ClockDue { w with cycles := 1, inputs := [.clock] } ∧ ({ w with cycles := 1 } : State).cycles ≠ 0) ∧
    (({ w with cycles := 7 } : State).faulted = false ∧ ({ w with cycles := 7 } : State).inputs = [] ∧
      ({ w with cycles := 7 } : State).cycles.toNat = 7 ∧ 0 < 7) ∧
    (({ w with cycles := 255 } : State).inputs = [] ∧ ({ w with cycles := 255 } : State).cycles.toNat = 255) := by decide
theorem witness_DecodeFailureExactly :
    (load [0x02] [] base).faulted = false ∧ step (load [0x02] [] base) = .fault (.decodeFailure 0x02 0x8000) ∧
    step (load [0xFF] [] { base with params := ⟨.fault, .flat, .fault⟩ }) = .fault (.decodeFailure 0xFF 0x8000) :=
  ⟨rfl, rfl, rfl⟩
theorem witness_FaultedBlock :
    step { w with faulted := true } = .refused .blockFaulted ∧
    step (load [0x02] [] base) = .fault (.decodeFailure 0x02 0x8000) ∧
    step { w with inputs := [.fetch] } = .fault (.invariantViolation .fetchWithoutInstruction) := ⟨rfl, rfl, rfl⟩
theorem witness_BusFaultOnlyWhereAbsent :
    step { base with pc := 0x8100, params := paged .fault } = .fault (.busFault 0x8100) := rfl
theorem witness_InvKept :
    State.Inv State.reset ∧ (∃ t, step State.reset = .next t) ∧
    State.Inv w ∧ (∃ t, step w = .next t) ∧ State.Inv { w with inputs := [.nmi] } ∧ ∃ t, step { w with inputs := [.nmi] } = .next t :=
  ⟨by decide, ⟨_, rfl⟩, by decide, ⟨_, rfl⟩, by decide, _, rfl⟩
theorem witness_BindingKept : ∃ t, step { w with params := paged (.defaultByte 0xEA) } = .next t := ⟨_, rfl⟩
theorem witness_ResetEvent :
    FlatBus { w with cycles := 3, inputs := [.reset, .clock] } ∧ ({ w with cycles := 3 } : State).faulted = false := by decide
theorem witness_IrqRequest :
    (FlatBus w ∧ Memory.wf w.mem = true ∧ w.faulted = false ∧ ({ w with inputs := [.irq] } : State).inputs = .irq :: []) ∧
    ({ w with cycles := 1 } : State).cycles ≠ 0 ∧ w.cycles = 0 ∧ flag bitI w.p = true ∧
    flag bitI ({ w with p := 0x20 } : State).p = false := by decide
theorem witness_NmiRequest :
    (FlatBus w ∧ Memory.wf w.mem = true ∧ w.faulted = false ∧ ({ w with inputs := [.nmi] } : State).inputs = .nmi :: []) ∧
    ({ w with cycles := 1 } : State).cycles ≠ 0 ∧ w.cycles = 0 := by decide
theorem witness_HostErrors :
    (State.Inv { w with inputs := [.fetch] } ∧ ({ w with inputs := [.fetch] } : State).instrLatched = false ∧
      step { w with inputs := [.fetch] } = .fault (.invariantViolation .fetchWithoutInstruction)) ∧
    State.Inv { w with cycles := 7, inputs := [.irq] } ∧
    step { w with cycles := 7, inputs := [.irq] } = .fault (.invariantViolation .interruptMidInstruction) :=
  ⟨⟨by decide, rfl, rfl⟩, by decide, rfl⟩
theorem witness_FetchCall :
    (FlatBus w ∧ w.faulted = false ∧ ({ w with instrLatched := true } : State).instrLatched = true ∧
      ({ w with inputs := [.fetch] } : State).inputs = .fetch :: []) ∧
    descriptorOf 0xEA = some ⟨.nop, .implied, 2⟩ ∧ descriptorOf 0x0A = some ⟨.asl, .accumulator, 2⟩ ∧
    descriptorOf 0xD0 = some ⟨.bne, .relative, 2⟩ ∧ descriptorOf 0xA5 = some ⟨.lda, .zeroPage, 3⟩ ∧
    Mode.zeroPage ∉ [Mode.implied, .accumulator, .relative] ∧ w.fetchValid = false := by decide
theorem witness_FetchIdempotent :
    ∃ t u, step { w with opcode := 0xA5, instrLatched := true, addressAbsolute := 0xFFFF, inputs := [.fetch, .fetch] } = .next t ∧
      step t = .next u := ⟨_, _, rfl, rfl⟩
theorem witness_ReturnUndoesEntry :
    FlatBus { w with sp := 0x00, pc := 0xFFFF } ∧ Memory.wf w.mem = true ∧ flag bitU w.p = true ∧ flag bitB w.p = false ∧
    (∃ t, interruptEntry vecIrq { w with sp := 0x00, pc := 0xFFFF } = .next t) ∧
    ∃ t, exec .brk { w with sp := 0x00, pc := 0xFFFF } = .next t :=
  ⟨rfl, rfl, rfl, rfl, ⟨_, rfl⟩, _, rfl⟩
theorem witness_CanonicalMemory :
    (Memory.wf ends = true ∧ ∀ a, Memory.read ends a = Memory.read ends a) ∧ 0 < 65536 ∧ 65535 < 65536 ∧ (0 : Nat) ≠ 65535 :=
  ⟨⟨rfl, fun _ => rfl⟩, by decide, by decide, by decide⟩
theorem witness_BusAccess :
    (accessAt (paged .fault).bus 0x7FFF = .absent ∧ (paged .fault).absentPolicy = .fault) ∧
    (accessAt (paged (.defaultByte 0xFF)).bus 0x8100 = .absent ∧ (paged (.defaultByte 0xFF)).absentPolicy = .defaultByte 0xFF) ∧
    accessAt (paged .fault).bus 0x8000 = .ram ∧ accessAt (paged .fault).bus 0x80FF = .ram ∧ Memory.wf w.mem = true ∧
    accessAt (.segmented [⟨0x2000, 0x2007, .device⟩]) 0x2007 = .device ∧ FlatBus w := by decide
theorem witness_WriteSeen :
    FlatBus w ∧ Memory.wf w.mem = true ∧ w.faulted = false ∧
    ({ w with inputs := [.busWrite 0xFFFF 0x00] } : State).inputs = .busWrite 0xFFFF 0x00 :: [] := by decide
theorem witness_StackRoundTrips :
    FlatBus { w with sp := 0x00 } ∧ FlatBus { w with sp := 0xFF } ∧ Memory.wf w.mem = true ∧
    (flag bitU w.p = true ∧ flag bitB w.p = false) ∧ (∃ t, exec .php { w with sp := 0x00 } = .next t) ∧
    ∃ t, exec .php { w with sp := 0xFF, p := 0x10 } = .next t := ⟨rfl, rfl, rfl, ⟨rfl, rfl⟩, ⟨_, rfl⟩, _, rfl⟩
theorem witness_ModesWithoutAddress : FlatBus { w with pc := 0xFFFF } := by decide
theorem witness_ZeroPageModes :
    FlatBus { w with x := 0xFF, y := 0x01 } ∧ (Operand.zeroPage 0xFF = .zeroPage 0xFF ∧ (0 : Byte) = 0) ∧
    (Operand.zeroPageX 0x01 = .zeroPageX 0x01 ∧ (0xFF : Byte) = ({ w with x := 0xFF } : State).x) ∧
    (Operand.zeroPageY 0xFF = .zeroPageY 0xFF ∧ (0x01 : Byte) = ({ w with y := 0x01 } : State).y) := by decide
theorem witness_AbsoluteModes :
    FlatBus { w with x := 0x01, y := 0xFF } ∧ (Operand.absolute 0xFFFF = .absolute 0xFFFF ∧ (0 : Byte) = 0) ∧
    (Operand.absoluteX 0xFFFF = .absoluteX 0xFFFF ∧ (0x01 : Byte) = ({ w with x := 0x01 } : State).x) ∧
    (Operand.absoluteY 0x00FF = .absoluteY 0x00FF ∧ (0xFF : Byte) = ({ w with y := 0xFF } : State).y) := by decide
theorem witness_IndirectModes : FlatBus { w with x := 0xFF, y := 0xFF } := by decide
theorem witness_Cost :
    (∃ t, FlatBus { w with x := 0x01 } ∧ exec (.ldaAbsX 0x00FF) { w with x := 0x01 } = .next t ∧
      crosses (.absoluteX 0x00FF) { w with x := 0x01 } = true ∧ t.cycles = 5) ∧
    (∃ t, exec (.bne (-128)) { w with pc := 0x8000 } = .next t ∧ t.cycles = 4) ∧
    (∃ t, exec (.sloIndX 0xFF) w = .next t ∧ t.cycles = 8) ∧
    crosses (.absoluteX 0x00FE) { w with x := 0x01 } = false :=
  ⟨⟨_, rfl, rfl, rfl, rfl⟩, ⟨_, rfl, rfl⟩, ⟨_, rfl, rfl⟩, rfl⟩
theorem witness_RegisterWriters :
    (∃ t, exec (.ldaImm 0x80) w = .next t ∧ t.a ≠ w.a) ∧
    (∃ t, exec .aslAcc { w with a := 0x01 } = .next t ∧ t.a ≠ 0x01 ∧ Instr.aslAcc.operation = .asl) ∧
    (∃ t, exec .inx w = .next t ∧ t.x ≠ w.x) ∧ (∃ t, exec .iny w = .next t ∧ t.y ≠ w.y) ∧
    (∃ t, exec .pha w = .next t ∧ t.sp ≠ w.sp) ∧ (∃ t, exec (.incZp 0x00) w = .next t ∧ t.mem ≠ w.mem) ∧
    (∃ t, exec .sec w = .next t ∧ flag bitC t.p ≠ flag bitC w.p) ∧
    (∃ t, exec .cli w = .next t ∧ flag bitI t.p ≠ flag bitI w.p) ∧
    (∃ t, exec .sed w = .next t ∧ flag bitD t.p ≠ flag bitD w.p) ∧
    (∃ t, exec .clv { w with p := 0xFF } = .next t ∧ flag bitV t.p ≠ flag bitV 0xFF) ∧
    (∃ t, exec .plp { w with p := 0x14 } = .next t ∧ flag bitB t.p ≠ flag bitB 0x14) ∧
    ∃ t, exec (.staZp 0xFF) w = .next t ∧ (Instr.staZp 0xFF).operation = .sta :=
  ⟨⟨_, rfl, by decide⟩, ⟨_, rfl, by decide, rfl⟩, ⟨_, rfl, by decide⟩, ⟨_, rfl, by decide⟩, ⟨_, rfl, by decide⟩,
    ⟨_, rfl, by decide⟩, ⟨_, rfl, by decide⟩, ⟨_, rfl, by decide⟩, ⟨_, rfl, by decide⟩, ⟨_, rfl, by decide⟩,
    ⟨_, rfl, by decide⟩, _, rfl, rfl⟩
theorem witness_CompletesOnEveryBus :
    (TotalBus w ∧ Permitted .brk w) ∧
    (TotalBus { w with params := paged (.defaultByte 0xFF) } ∧ Permitted (.laxZp 0xFF) { w with params := paged (.defaultByte 0xFF) }) ∧
    (TotalBus (full w) ∧ Permitted (.iscAbsX 0xFFFF) (full w)) := by decide
theorem witness_AdcResult : FlatBus w ∧ (Instr.adcImm 0xFF).operation = .adc ∧ (Instr.adcIndY 0xFF).operation = .adc := by decide
theorem witness_SbcResult : FlatBus w ∧ (Instr.sbcImm 0xFF).operation = .sbc ∧ (Instr.sbcAbsX 0xFFFF).operation = .sbc := by decide
theorem witness_LogicResult :
    FlatBus w ∧ ((Instr.andImm 0xFF).operation = .and ∧ 0x00 = w.a &&& operandByte (.immediate 0xFF) w) ∧
    ((Instr.eorImm 0xFF).operation = .eor ∧ 0xFF = w.a ^^^ operandByte (.immediate 0xFF) w) ∧
    ((Instr.oraImm 0xFF).operation = .ora ∧ 0xFF = w.a ||| operandByte (.immediate 0xFF) w) := by decide
theorem witness_ShiftAccumulator :
    FlatBus w ∧ Instr.aslAcc.operation ∈ [Operation.asl, .lsr, .rol, .ror] ∧ Instr.aslAcc.mode = .accumulator ∧
    Instr.rorAcc.operation ∈ [Operation.asl, .lsr, .rol, .ror] ∧ Instr.rorAcc.mode = .accumulator := by decide
theorem witness_ShiftMemory :
    FlatBus w ∧ Memory.wf w.mem = true ∧ (Instr.rolAbs 0xFFFF).operation ∈ [Operation.asl, .lsr, .rol, .ror] ∧
    (Instr.rolAbs 0xFFFF).mode ≠ .accumulator ∧ Instr.lsrAcc.mode = .accumulator := by decide
theorem witness_IncDecMemory :
    FlatBus w ∧ Memory.wf w.mem = true ∧
    ((Instr.incAbs 0xFFFF).operation = .inc ∧ 3 = ((operandByte (.absolute 0xFFFF) w).toNat + 1) % 256) ∧
    ((Instr.decZp 0x01).operation = .dec ∧ 255 = ((operandByte (.zeroPage 0x01) w).toNat + 255) % 256) := by decide
theorem witness_IndexStep :
    FlatBus { w with x := 0xFF } ∧ Instr.inx.operation = .inx ∧ Instr.iny.operation = .iny ∧ Instr.dex.operation = .dex ∧
    Instr.dey.operation = .dey := by decide
theorem witness_LoadResult :
    FlatBus w ∧ (Instr.ldaAbs 0xFFFF).operation = .lda ∧ (Instr.ldxImm 0x80).operation = .ldx ∧ (Instr.ldyZp 0x00).operation = .ldy := by
  decide
theorem witness_StoreResult :
    FlatBus w ∧ Memory.wf w.mem = true ∧ ((Instr.staAbs 0xFFFF).operation = .sta ∧ 0x00 = w.a) ∧
    ((Instr.stxZp 0x00).operation = .stx ∧ 0x00 = w.x) ∧ ((Instr.styZp 0xFF).operation = .sty ∧ 0x00 = w.y) := by decide
theorem witness_FlagInstructions :
    FlatBus w ∧ (Instr.clv.operation, 6, false) ∈ [(Operation.sec, 0, true), (.sed, 3, true), (.sei, 2, true),
        (.clc, 0, false), (.cld, 3, false), (.cli, 2, false), (.clv, 6, false)] := by decide
theorem witness_CompareResult :
    FlatBus { w with a := 0x80 } ∧ ((Instr.cmpImm 0x80).operation = .cmp ∧ 0x80 = ({ w with a := 0x80 } : State).a) ∧
    ((Instr.cpxImm 0xFF).operation = .cpx ∧ 0x00 = w.x) ∧ ((Instr.cpyImm 0x00).operation = .cpy ∧ 0x00 = w.y) := by decide
theorem witness_JmpResult : FlatBus { w with pc := 0xFFFF } := by decide
theorem witness_JsrResult : FlatBus { w with sp := 0x00 } ∧ Memory.wf w.mem = true := by decide
theorem witness_RtsResult :
    FlatBus { w with sp := 0xFF } ∧ Memory.wf w.mem = true ∧ ∃ t, exec (.jsrAbs 0xFFFF) { w with sp := 0x00 } = .next t :=
  ⟨rfl, rfl, _, rfl⟩
theorem witness_RtiResult : FlatBus { w with sp := 0xFE } := by decide
theorem witness_BranchResult :
    FlatBus { w with pc := 0xFFFF } ∧ (Instr.bcc (-128)).wellFormed = true ∧ (Instr.bvs 127).wellFormed = true ∧
    (flag 0 w.p = false ∧ flag 6 w.p ≠ true) ∧
    (Instr.bcc (-128), 0, false) ∈ [(Instr.bcc (-128), 0, false), (.bcs (-128), 0, true), (.beq (-128), 1, true),
      (.bne (-128), 1, false), (.bmi (-128), 7, true), (.bpl (-128), 7, false), (.bvc (-128), 6, false), (.bvs (-128), 6, true)] := by
  decide
theorem witness_PushResult : FlatBus { w with sp := 0x00 } ∧ Memory.wf w.mem = true := by decide
theorem witness_PullResult : FlatBus { w with sp := 0xFF } := by decide
theorem witness_TransferResult :
    FlatBus { w with a := 0x80 } ∧ (Instr.tax.operation, (0x80 : Byte)) ∈
      [(Operation.tax, (0x80 : Byte)), (.tay, 0x80), (.tsx, w.sp), (.txa, w.x), (.txs, w.x), (.tya, w.y)] ∧
    Instr.txs.operation = .txs ∧ Instr.tya.operation ≠ .txs := by decide
theorem witness_BrkResult : FlatBus { w with sp := 0x01, pc := 0xFFFF } ∧ Memory.wf w.mem = true := by decide
theorem witness_BitResult : FlatBus w ∧ (Instr.bitZp 0x00).operation = .bit ∧ (Instr.bitAbs 0xFFFF).operation = .bit := by decide
theorem witness_NopResult :
    FlatBus w ∧ Instr.nop.operation = .nop ∧ (Instr.laxIndY 0xFF).operation.unofficial = true ∧ w.params.unofficialExec = .nop := by
  decide
theorem witness_UnofficialImmediate :
    FlatBus (full w) ∧ (full w).params.unofficialExec = .full ∧ 0xFF = operandByte (Instr.axsImm 0xFF).operand (full w) ∧
    (Instr.axsImm 0xFF).operation = .axs ∧ (Instr.alrImm 0xFF).operation = .alr ∧ (Instr.ancImm0B 0xFF).operation = .anc ∧
    (Instr.arrImm 0xFF).operation = .arr ∧ Operation.axs ∈ [Operation.alr, .anc, .arr, .axs] := by decide
theorem witness_UnofficialReads :
    FlatBus (full w) ∧ (full w).params.unofficialExec = .full ∧ (Instr.laxZp 0xFF).operation ∈ [Operation.lax, .skb, .ign] ∧
    (Instr.skbImm80 0xFF).operation ≠ .lax ∧ (Instr.ignAbs 0xFFFF).operation = .ign := by decide
theorem witness_SaxResult :
    FlatBus (full w) ∧ Memory.wf (full w).mem = true ∧ (full w).params.unofficialExec = .full ∧
    (Instr.saxAbs 0xFFFF).operation = .sax := by decide
theorem witness_UnofficialModify :
    FlatBus (full w) ∧ Memory.wf (full w).mem = true ∧ (full w).params.unofficialExec = .full ∧
    0x02 = operandByte (Instr.dcpAbs 0xFFFF).operand (full w) ∧ (Instr.dcpAbs 0xFFFF).operation = .dcp ∧
    (Instr.iscZp 0).operation = .isc ∧ (Instr.rlaZp 0).operation = .rla ∧ (Instr.rraZp 0).operation = .rra ∧
    (Instr.sloZp 0).operation = .slo ∧ (Instr.sreZp 0).operation = .sre := by decide
theorem witness_UnofficialFault :
    (Instr.laxZp 0xFF).operation.unofficial = true ∧
    exec (.laxZp 0xFF) { w with params := ⟨.fault, .flat, .fault⟩ } = .fault (.decodeFailure 0xA7 0x8000) := ⟨rfl, rfl⟩


end Sys2Proof.Tests
end

section
/-! PROOF. What every transition can write: one relation between two states (`Effect`), one table of what each operation
writes (`footprint`), and one lemma that `exec` keeps to the table on every bus. The invariant, the binding and the writer
lists of 10_state.md are read off it. -/

namespace Sys2Proof.Machine

/-! The relation. -/

/-- Bits 4 and 5 of P as they stand between transitions (10_state.md R24). -/
abbrev StatusForm (p : Byte) : Prop := flag bitU p = true ∧ flag bitB p = false

/-- Bits 4 and 5 are not among the named bits of P. -/
abbrev NoStatusBits (named : List Nat) : Prop := bitU ∉ named ∧ bitB ∉ named

/-- What an operation of the block may write of the registers, the memory and P, and the most extra cycles it may add. -/
structure Footprint where
  a : Bool := false
  x : Bool := false
  y : Bool := false
  sp : Bool := false
  mem : Bool := false
  flags : List Nat := []
  extra : Nat := 0

/-- `t` comes from `s` by writes within `w`: what no executor writes is as before, the memory keeps its canonical form and
P the form of bits 4 and 5. Of pc, the resolver's latches, the operand latch and the bus operations nothing is said. -/
structure Effect (w : Footprint) (s t : State) : Prop where
  params : t.params = s.params
  inputs : t.inputs = s.inputs
  faulted : t.faulted = s.faulted
  opcode : t.opcode = s.opcode
  instrLatched : t.instrLatched = s.instrLatched
  cycles : t.cycles = s.cycles
  a : w.a = false → t.a = s.a
  x : w.x = false → t.x = s.x
  y : w.y = false → t.y = s.y
  sp : w.sp = false → t.sp = s.sp
  mem : w.mem = false → t.mem = s.mem
  flags : OnlyFlags w.flags s.p t.p
  canonical : Memory.wf s.mem = true → Memory.wf t.mem = true
  status : StatusForm s.p → StatusForm t.p

namespace Effect

variable {w : Footprint} {s t u : State}

theorem refl (w : Footprint) (s : State) : Effect w s s where
  params := rfl
  inputs := rfl
  faulted := rfl
  opcode := rfl
  instrLatched := rfl
  cycles := rfl
  a _ := rfl
  x _ := rfl
  y _ := rfl
  sp _ := rfl
  mem _ := rfl
  flags _ _ := rfl
  canonical := id
  status := id

theorem trans (h : Effect w s t) (k : Effect w t u) : Effect w s u where
  params := k.params.trans h.params
  inputs := k.inputs.trans h.inputs
  faulted := k.faulted.trans h.faulted
  opcode := k.opcode.trans h.opcode
  instrLatched := k.instrLatched.trans h.instrLatched
  cycles := k.cycles.trans h.cycles
  a hw := (k.a hw).trans (h.a hw)
  x hw := (k.x hw).trans (h.x hw)
  y hw := (k.y hw).trans (h.y hw)
  sp hw := (k.sp hw).trans (h.sp hw)
  mem hw := (k.mem hw).trans (h.mem hw)
  flags n hn := (k.flags n hn).trans (h.flags n hn)
  canonical := k.canonical ∘ h.canonical
  status := k.status ∘ h.status

/-- The latches, pc and the model's record of bus operations are in no footprint. -/
theorem latches (w : Footprint) (s : State) (pc aa ar : Word) (fetched : Byte) (valid : Bool) (ops : List BusOp) (n : Nat) :
    Effect w s { s with
      pc := pc, addressAbsolute := aa, addressRelative := ar, fetched := fetched, fetchValid := valid
      busOps := ops, deviceReads := n } where
  __ := refl w s

theorem of_resolverFrame (h : ResolverFrame s t) : Effect w s t := by
  rw [h]
  exact latches w s ..

/-- Flags written within the footprint, bits 4 and 5 of P not among them. -/
theorem setStatus {p : Byte} (hp : OnlyFlags w.flags s.p p)
    (hs : NoStatusBits w.flags := by decide) : Effect w s { s with p := p } where
  __ := refl w s
  flags := hp
  status h := ⟨(hp _ hs.1).trans h.1, (hp _ hs.2).trans h.2⟩

/-- Registers and flags written within the footprint, bits 4 and 5 of P not among the flags. -/
theorem registers {a x y sp p : Byte}
    (hp : OnlyFlags w.flags s.p p)
    (hs : NoStatusBits w.flags := by decide)
    (ha : w.a = false → a = s.a := by simp) (hx : w.x = false → x = s.x := by simp)
    (hy : w.y = false → y = s.y := by simp) (hsp : w.sp = false → sp = s.sp := by simp) :
    Effect w s { s with a := a, x := x, y := y, sp := sp, p := p } where
  __ := refl w s
  a := ha
  x := hx
  y := hy
  sp := hsp
  flags := hp
  status h := ⟨(hp _ hs.1).trans h.1, (hp _ hs.2).trans h.2⟩

theorem stackPointer (hw : w.sp = true) (s : State) (sp : Byte) : Effect w s { s with sp := sp } where
  __ := refl w s
  sp h := absurd (hw.symm.trans h) (by decide)

theorem memory {mem : List Host.Cell} (hw : w.mem = true) (hm : Memory.wf s.mem = true → Memory.wf mem = true) :
    Effect w s { s with mem := mem } where
  __ := refl w s
  mem h := absurd (hw.symm.trans h) (by decide)
  canonical := hm

/-- PLP and RTI write every bit of P, and bits 4 and 5 to the values of 10_state.md R24. -/
theorem loadStatus (hw : w.flags = List.range 8) (s : State) (m : Byte) :
    Effect w s { s with p := pulledStatus m } where
  __ := refl w s
  flags k hk := by
    have h8 : 8 ≤ k := by simpa [hw] using hk
    exact (BitVec.getLsbD_of_ge _ _ h8).trans (BitVec.getLsbD_of_ge _ _ h8).symm
  status _ := ⟨by rw [flag_pulledStatus, if_pos rfl], by rw [flag_pulledStatus, if_neg (by decide), if_pos rfl]⟩

end Effect

/-! The bus and the stack, on every bus. -/

section
variable {w : Footprint} {s : State}

theorem store_eq (a : Word) (v : Byte) (s : State) : store a v s = { s with mem := (store a v s).mem } := by
  unfold store
  split <;> rfl

theorem memWrite_effect (hw : w.mem = true) (a : Word) (v : Byte) (s : State) : Effect w s (memWrite a v s) := by
  rw [memWrite, store_eq]
  exact (Effect.memory hw store_wf).trans (.latches ..)

theorem push8_effect (hm : w.mem = true) (hsp : w.sp = true) (v : Byte) (s : State) : Effect w s (push8 v s) :=
  (memWrite_effect hm ..).trans (.stackPointer hsp ..)

theorem push16_effect (hm : w.mem = true) (hsp : w.sp = true) (v : Word) (s : State) : Effect w s (push16 v s) :=
  (push8_effect hm hsp ..).trans (push8_effect hm hsp ..)

theorem pull8_effect (hsp : w.sp = true) {r : Byte × State} (h : pull8 s = .next r) : Effect w s r.2 :=
  (Effect.stackPointer hsp ..).trans (.of_resolverFrame (memRead_frame h))

theorem pull16_effect (hsp : w.sp = true) {r : Word × State} (h : pull16 s = .next r) : Effect w s r.2 := by
  obtain ⟨r1, h1, h⟩ := andThen_eq_next h
  obtain ⟨r2, h2, h⟩ := andThen_eq_next h
  cases h
  exact (pull8_effect hsp h1).trans (pull8_effect hsp h2)

theorem read16_frame {a : Word} {r : Word × State} (h : read16 a s = .next r) : ResolverFrame s r.2 := by
  obtain ⟨r1, h1, h⟩ := andThen_eq_next h
  obtain ⟨r2, h2, h⟩ := andThen_eq_next h
  cases h
  exact (memRead_frame h1).trans (memRead_frame h2)

/-- The operand fetch over any read that keeps the resolver's frame (40_cpu_cycle.md R108). -/
theorem fetchBy_effect {deliver : State → Res (Byte × State)} {m : Mode} {r : Byte × State}
    (hd : ∀ q, deliver s = .next q → ResolverFrame s q.2) (h : fetchBy deliver m s = .next r) : Effect w s r.2 := by
  unfold fetchBy at h
  split at h
  · cases h; exact .refl w s
  split at h
  · cases h; exact .refl w s
  obtain ⟨q, hq, h⟩ := andThen_eq_next h
  cases h
  exact (Effect.of_resolverFrame (hd q hq)).trans (.latches ..)

end

/-! Flag functions: which bits of P each may change. -/

section
variable {named named' : List Nat} {p q : Byte}

theorem onlyFlags_refl (named : List Nat) (p : Byte) : OnlyFlags named p p := fun _ _ => rfl

theorem onlyFlags_mono (h : OnlyFlags named p q) (hs : ∀ k ∈ named, k ∈ named' := by decide) : OnlyFlags named' p q :=
  fun k hk => h k fun hn => hk (hs k hn)

theorem onlyFlags_setFlag {k : Nat} (hn : k ∈ named) (h : OnlyFlags named p q) (b : Bool) (hk : k < 8 := by decide) :
    OnlyFlags named p (setFlag k b q) := fun j hj =>
  (flag_setFlag_ne hk (ne_of_mem_of_not_mem hn hj).symm).trans (h j hj)

theorem onlyFlags_setZN (hz : bitZ ∈ named) (hn : bitN ∈ named) (h : OnlyFlags named p q) (v : Byte) :
    OnlyFlags named p (setZN v q) :=
  onlyFlags_setFlag hn (onlyFlags_setFlag hz h _) _

end

theorem setZN_onlyFlags (r p : Byte) : OnlyFlags [bitZ, bitN] p (setZN r p) :=
  onlyFlags_setZN (by decide) (by decide) (onlyFlags_refl _ _) r

/-- The shifts, the compares and ALR set C, then Z and N. -/
theorem carryZN_onlyFlags (r : Byte) (c : Bool) (p : Byte) :
    OnlyFlags [bitC, bitZ, bitN] p (setZN r (setFlag bitC c p)) :=
  onlyFlags_setZN (by decide) (by decide) (onlyFlags_setFlag (by decide) (onlyFlags_refl _ _) c) r

theorem addWithCarry_onlyFlags (a m p : Byte) : OnlyFlags [bitC, bitZ, bitV, bitN] p (addWithCarry a m p).2 :=
  onlyFlags_setZN (by decide) (by decide)
    (onlyFlags_setFlag (by decide) (onlyFlags_setFlag (by decide) (onlyFlags_refl _ _) _) _) _

theorem bitTestFlags_onlyFlags (a m p : Byte) : OnlyFlags [bitZ, bitV, bitN] p (bitTestFlags a m p) :=
  onlyFlags_setFlag (by decide)
    (onlyFlags_setFlag (by decide) (onlyFlags_setFlag (by decide) (onlyFlags_refl _ _) _) _) _

theorem ancByte_onlyFlags (a m p : Byte) : OnlyFlags [bitC, bitZ, bitN] p (ancByte a m p).2 :=
  onlyFlags_setFlag (by decide) (onlyFlags_setZN (by decide) (by decide) (onlyFlags_refl _ _) _) _

theorem arrByte_onlyFlags (a m p : Byte) : OnlyFlags [bitC, bitZ, bitV, bitN] p (arrByte a m p).2 :=
  onlyFlags_setFlag (by decide)
    (onlyFlags_setFlag (by decide) (onlyFlags_setZN (by decide) (by decide) (onlyFlags_refl _ _) _) _) _

/-! The entry and the return. -/

/-- What the entry of BRK, IRQ and NMI writes (60_exceptions.md R266): the three pushed bytes, SP and P.I. -/
def entryFootprint : Footprint := { sp := true, mem := true, flags := [bitI] }

theorem enterInterrupt_effect {vector returnTo : Word} {status : Byte} {s t : State}
    (h : enterInterrupt vector returnTo status s = .next t) :
    Effect entryFootprint s t ∧ t.fetchValid = s.fetchValid := by
  obtain ⟨r, hr, h⟩ := andThen_eq_next h
  cases h
  have hframe := read16_frame hr
  have hpush : Effect entryFootprint s (push8 status (push16 returnTo s)) :=
    (push16_effect rfl rfl ..).trans (push8_effect rfl rfl ..)
  have hflag : OnlyFlags entryFootprint.flags s.p (setFlag bitI true s.p) :=
    onlyFlags_setFlag (by decide) (onlyFlags_refl _ _) _
  constructor
  · exact ((hpush.trans (.setStatus (by simpa using hflag))).trans (.of_resolverFrame hframe)).trans (.latches ..)
  · have hvalid : r.2.fetchValid = (push8 status (push16 returnTo s)).fetchValid := by rw [hframe]
    simpa using hvalid

theorem returnFromInterrupt_effect {w : Footprint} (hsp : w.sp = true) (hw : w.flags = List.range 8) {s t : State}
    (h : returnFromInterrupt s = .next t) : Effect w s t := by
  obtain ⟨r1, h1, h⟩ := andThen_eq_next h
  obtain ⟨r2, h2, h⟩ := andThen_eq_next h
  cases h
  exact (((pull8_effect hsp h1).trans (.loadStatus hw ..)).trans (pull16_effect hsp h2)).trans (.latches ..)

/-! The executors, by class. -/

/-- What an executor does in a mode stays within a footprint. -/
def Executor.Within (w : Footprint) (m : Operand) (e : Executor) : Prop :=
  ∀ (s : State) (r : Nat × State), e m s = .next r → Effect w s r.2 ∧ r.1 ≤ w.extra

section
variable {w : Footprint} {m : Operand}

theorem done_within {s t : State} {r : Nat × State} (h : done t = .next r) (ht : Effect w s t) :
    Effect w s r.2 ∧ r.1 ≤ w.extra := by
  cases h
  exact ⟨ht, Nat.zero_le _⟩

theorem idle_within : idle.Within w m := fun s _ h => done_within h (.refl w s)

theorem direct_within {f : State → State} (hf : ∀ s, Effect w s (f s)) : (direct f).Within w m :=
  fun s _ h => done_within h (hf s)

theorem fetchOperand_effect {s : State} {r : Byte × State} (h : fetchOperand m s = .next r) : Effect w s r.2 :=
  fetchBy_effect (fun _ => operandRead_frame) h

theorem readClass_within {f : Byte → State → State} (hf : ∀ v s, Effect w s (f v s)) : (readClass f).Within w m := by
  intro s r h
  obtain ⟨q, hq, h⟩ := andThen_eq_next h
  exact done_within h ((fetchOperand_effect hq).trans (hf _ _))

theorem storeClass_within (hw : w.mem = true) (v : State → Byte) : (storeClass v).Within w m :=
  fun _ _ h => done_within h (memWrite_effect hw ..)

/-- The byte function's flags, the one write, and what follows the write (43_shift_incdec.md R150). -/
theorem modifyMemory_within {f : ByteFn} {after : Byte → State → State} (hw : w.mem = true)
    (hf : ∀ v p, OnlyFlags w.flags p (f v p).2) (hafter : ∀ v s, Effect w s (after v s))
    (hs : NoStatusBits w.flags := by decide) : (modifyMemory f after).Within w m := by
  intro s r h
  obtain ⟨q, hq, h⟩ := andThen_eq_next h
  have hflags : Effect w q.2 { q.2 with p := (f q.1 q.2.p).2 } := .setStatus (hf _ _) hs
  exact done_within h
    (((fetchOperand_effect hq).trans hflags).trans ((memWrite_effect hw ..).trans (hafter ..)))

/-- The template of 43_shift_incdec.md R150: A is written in Accumulator mode alone. -/
theorem modify_within {f : ByteFn} (hw : w.mem = true) (ha : m = .accumulator → w.a = true)
    (hf : ∀ v p, OnlyFlags w.flags p (f v p).2)
    (hs : NoStatusBits w.flags := by decide) : (modify f).Within w m := by
  cases m with
  | accumulator => exact fun s r h => done_within h (.registers (hf _ _) hs (ha := by simp [ha rfl]))
  | implied | immediate _ | zeroPage _ | zeroPageX _ | zeroPageY _ | absolute _ | absoluteX _ | absoluteY _
  | relative _ | indirect _ | indirectX _ | indirectY _ =>
    exact modifyMemory_within hw hf (fun _ _ => .refl ..) hs

/-- A branch writes pc alone, and adds two cycles at most (46_control_transfer.md R194). -/
theorem branch_within (hw : w.extra = 2) (cond : State → Bool) : (branch cond).Within w m := by
  intro s r h
  unfold branch at h
  split at h
  · cases h
    refine ⟨.latches .., ?_⟩
    rw [hw]
    dsimp only
    split <;> decide
  · exact done_within h (.refl ..)

end

/-! The table. -/

/-- What each operation writes, by the rules of its family (42_alu.md to 49_unofficial.md). -/
def footprint (op : Operation) (m : Operand) : Footprint :=
  match op with
  | .adc | .sbc | .arr => { a := true, flags := [bitC, bitZ, bitV, bitN] }
  | .and | .eor | .ora | .lda | .txa | .tya => { a := true, flags := [bitZ, bitN] }
  | .asl | .lsr | .rol | .ror => { a := decide (m = .accumulator), mem := true, flags := [bitC, bitZ, bitN] }
  | .inc | .dec => { a := decide (m = .accumulator), mem := true, flags := [bitZ, bitN] }
  | .inx | .dex | .ldx | .tax | .tsx => { x := true, flags := [bitZ, bitN] }
  | .iny | .dey | .ldy | .tay => { y := true, flags := [bitZ, bitN] }
  | .sta | .stx | .sty | .sax => { mem := true }
  | .sec | .clc => { flags := [bitC] }
  | .sed | .cld => { flags := [bitD] }
  | .sei | .cli => { flags := [bitI] }
  | .clv => { flags := [bitV] }
  | .cmp | .cpx | .cpy => { flags := [bitC, bitZ, bitN] }
  | .bit => { flags := [bitZ, bitV, bitN] }
  | .bcc | .bcs | .beq | .bne | .bmi | .bpl | .bvc | .bvs => { extra := 2 }
  | .jmp | .nop | .skb | .ign => {}
  | .pha | .php | .jsr => { sp := true, mem := true }
  | .rts | .txs => { sp := true }
  | .pla => { a := true, sp := true, flags := [bitZ, bitN] }
  | .plp | .rti => { sp := true, flags := List.range 8 }
  | .brk => entryFootprint
  | .alr | .anc => { a := true, flags := [bitC, bitZ, bitN] }
  | .axs => { x := true, flags := [bitC, bitZ, bitN] }
  | .lax => { a := true, x := true, flags := [bitZ, bitN] }
  | .dcp => { mem := true, flags := [bitC, bitZ, bitN] }
  | .rla | .slo | .sre => { a := true, mem := true, flags := [bitC, bitZ, bitN] }
  | .isc | .rra => { a := true, mem := true, flags := [bitC, bitZ, bitV, bitN] }

/-- Every executor keeps to the table, on every bus. -/
theorem executorOf_within (op : Operation) (m : Operand) : (executorOf op).Within (footprint op m) m := by
  cases op with dsimp only [executorOf, footprint]
  | adc | sbc => exact readClass_within fun _ _ => .registers (addWithCarry_onlyFlags _ _ _)
  | arr => exact readClass_within fun _ _ => .registers (arrByte_onlyFlags _ _ _)
  | and | eor | ora | lda | ldx | ldy | lax => exact readClass_within fun _ _ => .registers (setZN_onlyFlags _ _)
  | cmp | cpx | cpy | alr | axs => exact readClass_within fun _ _ => .registers (carryZN_onlyFlags _ _ _)
  | anc => exact readClass_within fun _ _ => .registers (ancByte_onlyFlags _ _ _)
  | bit => exact readClass_within fun _ _ => .registers (bitTestFlags_onlyFlags _ _ _)
  | skb | ign => exact readClass_within fun _ _ => .refl ..
  | asl | lsr | rol | ror =>
    exact modify_within rfl decide_eq_true (fun _ _ => carryZN_onlyFlags _ _ _)
      (show NoStatusBits [bitC, bitZ, bitN] by decide)
  | inc | dec =>
    exact modify_within rfl decide_eq_true (fun _ _ => setZN_onlyFlags _ _) (show NoStatusBits [bitZ, bitN] by decide)
  | inx | iny | dex | dey | txa | tya | tax | tay | tsx => exact direct_within fun _ => .registers (setZN_onlyFlags _ _)
  | sta | stx | sty | sax => exact storeClass_within rfl _
  | sec | sed | sei | clc | cld | cli | clv =>
    exact direct_within fun _ => .registers (onlyFlags_setFlag (by decide) (onlyFlags_refl _ _) _)
  | jmp => exact direct_within fun _ => .latches ..
  | nop => exact direct_within fun _ => .refl ..
  | txs => exact direct_within fun _ => .stackPointer rfl ..
  | pha | php => exact direct_within fun _ => push8_effect rfl rfl ..
  | bcc | bcs | beq | bne | bmi | bpl | bvc | bvs => exact branch_within rfl _
  | jsr => exact fun _ _ h => done_within h ((push16_effect rfl rfl ..).trans (.latches ..))
  | rts =>
    intro s r h
    obtain ⟨q, hq, h⟩ := andThen_eq_next h
    exact done_within h ((pull16_effect rfl hq).trans (.latches ..))
  | rti =>
    intro s r h
    obtain ⟨t, ht, h⟩ := andThen_eq_next h
    exact done_within h (returnFromInterrupt_effect rfl rfl ht)
  | pla =>
    intro s r h
    obtain ⟨q, hq, h⟩ := andThen_eq_next h
    exact done_within h ((pull8_effect rfl hq).trans (.registers (setZN_onlyFlags _ _)))
  | plp =>
    intro s r h
    obtain ⟨q, hq, h⟩ := andThen_eq_next h
    exact done_within h ((pull8_effect rfl hq).trans (.loadStatus rfl ..))
  | brk =>
    intro s r h
    obtain ⟨t, ht, h⟩ := andThen_eq_next h
    exact done_within h (enterInterrupt_effect ht).1
  | dcp => exact modifyMemory_within rfl (fun _ _ => onlyFlags_refl _ _) fun _ _ => .registers (carryZN_onlyFlags _ _ _)
  | isc => exact modifyMemory_within rfl (fun _ _ => onlyFlags_refl _ _) fun _ _ => .registers (addWithCarry_onlyFlags _ _ _)
  | rra =>
    exact modifyMemory_within rfl (fun _ _ => onlyFlags_mono (carryZN_onlyFlags _ _ _)) fun _ _ =>
      .registers (addWithCarry_onlyFlags _ _ _)
  | rla | slo | sre =>
    exact modifyMemory_within rfl (fun _ _ => carryZN_onlyFlags _ _ _) fun _ _ =>
      .registers (onlyFlags_mono (setZN_onlyFlags _ _))

end Sys2Proof.Machine
end

section
/-! PROOF. One instruction and one transition on every bus, the invariant of the block, and the statements on the state
(10_state.md). -/

namespace Sys2Proof.Machine

/-! One instruction. -/

theorem runs_within (u : UnofficialExec) (op : Operation) (m : Operand) :
    (runs u op).Within (footprint op m) m := by
  unfold runs
  split
  · exact idle_within
  · exact executorOf_within op m

/-- An instruction that answers is permitted (49_unofficial.md R235). -/
theorem permitted_of_exec {i : Instr} {s t : State} (h : exec i s = .next t) : Permitted i s := by
  intro hu hf
  rw [exec_forbidden i s hu hf] at h
  cases h

/-- The penalty class is largest under UNOFFICIAL_EXEC = full (40_cpu_cycle.md R107). -/
theorem pagePenaltyClass_full {u : UnofficialExec} {op : Operation} (h : pagePenaltyClass u op = true) :
    pagePenaltyClass .full op = true := by
  revert h
  unfold pagePenaltyClass
  split <;> simp

theorem pagePenalty_le (u : UnofficialExec) (op : Operation) (crossed : Bool) :
    pagePenalty u op crossed ≤ pagePenalty .full op true := by
  unfold pagePenalty
  split
  next h =>
    obtain ⟨-, hclass⟩ := (Bool.and_eq_true ..).mp h
    simp [pagePenaltyClass_full hclass]
  next => exact Nat.zero_le _

/-- The dearest case of every row of the opcode table (30_encoding.md R84, R85, 40_cpu_cycle.md R106). -/
theorem dearest_cost (i : Instr) :
    1 ≤ i.baseCycles ∧ i.baseCycles + pagePenalty .full i.operation true + (footprint i.operation i.operand).extra ≤ 8 := by
  cases i <;> exact ⟨Nat.le_of_ble_eq_true rfl, Nat.le_of_ble_eq_true rfl⟩

/-- What one instruction that answers does: within its footprint after the opcode latch, and a cost of 1 to 8 pulses. -/
theorem exec_next {i : Instr} {s t : State} (h : exec i s = .next t) :
    ∃ (u : State) (n : Nat), Effect (footprint i.operation i.operand) (latchOpcode i.opcodeByte s) u ∧
      1 ≤ n ∧ n ≤ 8 ∧ t = { u with cycles := BitVec.ofNat 8 n } := by
  rw [exec_runs i s (permitted_of_exec h)] at h
  obtain ⟨r1, h1, h⟩ := andThen_eq_next h
  obtain ⟨r2, h2, h⟩ := andThen_eq_next h
  cases h
  obtain ⟨heffect, hextra⟩ := runs_within _ _ _ _ _ h2
  have hpenalty := pagePenalty_le s.params.unofficialExec i.operation r1.1
  have hcost := dearest_cost i
  exact ⟨r2.2, _, (Effect.of_resolverFrame (resolve_frame h1)).trans heffect, by omega, by omega, rfl⟩

/-- The opcode byte of an instruction is an assigned one, row by row of the table (30_encoding.md R83, R88). -/
theorem descriptorOf_opcodeByte (i : Instr) : descriptorOf i.opcodeByte = some i.descriptor := by
  cases i <;>
    dsimp only [Instr.opcodeByte, Instr.row, Instr.descriptor, Instr.operation, Instr.mode, Instr.baseCycles] <;>
    decide

/-! One transition: what every host call keeps. -/

/-- `t` has the bus binding and the sticky bit of `s`, and the invariant of the block if `s` has it. -/
structure Keeps (s t : State) : Prop where
  params : t.params = s.params
  faulted : t.faulted = s.faulted
  inv : s.Inv → t.Inv

namespace Keeps

variable {w : Footprint} {s t u : State}

theorem refl (s : State) : Keeps s s := ⟨rfl, rfl, id⟩

theorem trans (h : Keeps s t) (k : Keeps t u) : Keeps s u :=
  ⟨k.params.trans h.params, k.faulted.trans h.faulted, k.inv ∘ h.inv⟩

/-- Writes within a footprint keep the invariant where an operand latch is made valid under a latched instruction only. -/
theorem of_effect (h : Effect w s t) (hv : s.instrLatched = true ∨ t.fetchValid = s.fetchValid) : Keeps s t where
  params := h.params
  faulted := h.faulted
  inv := by
    intro ⟨hmem, hu, hb, hcycles, hopcode, hvalid⟩
    obtain ⟨hu', hb'⟩ := h.status ⟨hu, hb⟩
    refine ⟨h.canonical hmem, hu', hb', h.cycles ▸ hcycles, ?_, ?_⟩
    · rw [h.instrLatched, h.opcode]
      exact hopcode
    · rw [h.instrLatched]
      intro hf
      exact hv.elim id fun e => hvalid (e ▸ hf)

theorem of_resolverFrame (h : ResolverFrame s t) : Keeps s t :=
  of_effect (w := {}) (.of_resolverFrame h) (.inr (by rw [h]))

/-- At most seven pulses are owed. -/
theorem setCycles {c : Byte} (hc : s.Inv → c.toNat ≤ 7) : Keeps s { s with cycles := c } where
  params := rfl
  faulted := rfl
  inv h :=
    have ⟨hmem, hu, hb, _, hlatch⟩ := h
    ⟨hmem, hu, hb, hc h, hlatch⟩

/-- A latched byte is an assigned one, and the latch makes no operand valid (40_cpu_cycle.md R104). -/
theorem latched (i : Instr) (s : State) : Keeps s (latchOpcode i.opcodeByte s) where
  params := rfl
  faulted := rfl
  inv h :=
    have ⟨hmem, hu, hb, hcycles, _⟩ := h
    ⟨hmem, hu, hb, hcycles, fun _ => by simp [descriptorOf_opcodeByte], nofun⟩

end Keeps

section
variable {s t : State}

/-- An instruction leaves 1 to 8 pulses owed and takes the first one off (40_cpu_cycle.md R101, R106). -/
theorem clock_keeps (h : clock s = .next t) : Keeps s t := by
  unfold clock at h
  split at h
  · obtain ⟨v, hrun, h⟩ := andThen_eq_next h
    cases h
    obtain ⟨r, hread, hrun⟩ := andThen_eq_next hrun
    split at hrun
    next q _ =>
      obtain ⟨u, n, heffect, hpos, hle, rfl⟩ := exec_next hrun
      have hlatched := (Keeps.of_resolverFrame (memRead_frame hread)).trans (.latched q.1 r.2)
      have hdone := hlatched.trans (.of_effect heffect (.inl rfl))
      exact hdone.trans (.setCycles fun _ => by bv_omega)
    next => cases hrun
  · cases h
    exact .setCycles fun hinv => by
      obtain ⟨-, -, -, hcycles, -⟩ := hinv
      bv_omega

/-- `fetch()` makes an operand valid under a latched instruction (40_cpu_cycle.md R108). -/
theorem fetchCall_keeps (h : fetchCall s = .next t) : Keeps s t := by
  unfold fetchCall at h
  split at h
  next hlatched =>
    split at h
    · obtain ⟨r, hr, h⟩ := andThen_eq_next h
      cases h
      exact .of_effect (w := {}) (fetchBy_effect (fun _ => memRead_frame) hr) (.inl hlatched)
    · cases h
  next => cases h

/-- `reset()` loads values that meet the invariant (70_reset_and_hazards.md R291) and leaves the memory. -/
theorem resetCall_keeps (h : resetCall s = .next t) : Keeps s t := by
  obtain ⟨r, hr, h⟩ := andThen_eq_next h
  cases h
  have hread := Keeps.of_resolverFrame (read16_frame hr)
  have hstatus : StatusForm resetP := by decide
  have hcycles : resetCycles.toNat ≤ 7 := by decide
  refine hread.trans ⟨rfl, rfl, ?_⟩
  rintro ⟨hmem, -⟩
  exact ⟨hmem, hstatus.1, hstatus.2, hcycles, nofun, nofun⟩

theorem interruptEntry_keeps {vector : Word} (h : interruptEntry vector s = .next t) : Keeps s t := by
  obtain ⟨u, hu, h⟩ := andThen_eq_next h
  cases h
  obtain ⟨heffect, hvalid⟩ := enterInterrupt_effect hu
  exact (Keeps.of_effect heffect (.inr hvalid)).trans (.setCycles fun _ => by decide)

theorem irqCall_keeps (h : irqCall s = .next t) : Keeps s t := by
  unfold irqCall at h
  split at h
  · split at h
    · cases h
      exact .refl s
    · exact interruptEntry_keeps h
  · cases h

theorem nmiCall_keeps (h : nmiCall s = .next t) : Keeps s t := by
  unfold nmiCall at h
  split at h
  · exact interruptEntry_keeps h
  · cases h

theorem store_keeps (a : Word) (v : Byte) (s : State) : Keeps s (store a v s) := by
  rw [store_eq]
  exact .of_effect (w := { mem := true }) (.memory rfl store_wf) (.inr rfl)

theorem hostCall_keeps {e : HostEvent} (h : hostCall e s = .next t) : Keeps s t := by
  cases e with
  | clock => exact clock_keeps h
  | fetch => exact fetchCall_keeps h
  | reset => exact resetCall_keeps h
  | irq => exact irqCall_keeps h
  | nmi => exact nmiCall_keeps h
  | busWrite a v =>
    cases h
    exact store_keeps a v s

/-- A step is one host call of an unfaulted block, `clock()` where `inputs` is empty (log 2). -/
theorem step_eq (s : State) (hs : s.faulted = false) : step s = hostCall (s.inputs.head?.getD .clock) (begun s) := by
  obtain ⟨a, x, y, sp, pc, p, aa, ar, op, f, c, fv, il, fault, mem, params, inputs, ops, n⟩ := s
  cases hs
  cases inputs <;> rfl

/-- A step that answers starts from an unfaulted block. -/
theorem not_faulted_of_step (h : step s = .next t) : s.faulted = false := by
  unfold step at h
  split at h
  · cases h
  · simpa using ‹¬ s.faulted = true›

theorem step_keeps (h : step s = .next t) : Keeps s t := by
  rw [step_eq s (not_faulted_of_step h)] at h
  have hcall := hostCall_keeps h
  exact ⟨hcall.params, hcall.faulted, hcall.inv⟩

end

/-! The table by column: which operations write each register, the memory and each flag. -/

/-- Accumulator mode is the shifts' alone (30_encoding.md R84). -/
theorem shift_of_accumulator (i : Instr) : i.mode = .accumulator → i.operation ∈ [.asl, .lsr, .rol, .ror] := by
  cases i <;> dsimp only [Instr.mode, Instr.operation, Instr.row] <;> decide

theorem footprint_a (i : Instr) (h : (footprint i.operation i.operand).a = true) :
    i.operation ∈ [.adc, .sbc, .and, .eor, .ora, .lda, .pla, .txa, .tya, .asl, .lsr, .rol, .ror,
      .alr, .anc, .arr, .lax, .isc, .rla, .rra, .slo, .sre] ∧
    (i.operation ∈ [.asl, .lsr, .rol, .ror] → i.mode = .accumulator) := by
  have hshift := shift_of_accumulator i
  rw [mode_operand] at hshift ⊢
  revert h hshift
  generalize i.operation = op
  generalize i.operand = m
  cases op <;> simp +contextual [footprint, entryFootprint, Operand.mode]

theorem footprint_registers (op : Operation) (m : Operand) :
    ((footprint op m).x = true → op ∈ [.ldx, .inx, .dex, .tax, .tsx, .axs, .lax]) ∧
    ((footprint op m).y = true → op ∈ [.ldy, .iny, .dey, .tay]) ∧
    ((footprint op m).sp = true → op ∈ [.pha, .php, .pla, .plp, .jsr, .rts, .rti, .brk, .txs]) ∧
    ((footprint op m).mem = true → op ∈ [.sta, .stx, .sty, .asl, .lsr, .rol, .ror, .inc, .dec, .pha, .php, .jsr, .brk,
      .sax, .dcp, .isc, .rla, .rra, .slo, .sre]) := by
  cases op <;> dsimp only [footprint] <;> decide

theorem footprint_flags (op : Operation) (m : Operand) :
    (bitC ∈ (footprint op m).flags → op ∈ [.adc, .sbc, .asl, .lsr, .rol, .ror, .cmp, .cpx, .cpy, .sec, .clc,
      .plp, .rti, .alr, .anc, .arr, .axs, .dcp, .isc, .rla, .rra, .slo, .sre]) ∧
    (bitI ∈ (footprint op m).flags → op ∈ [.sei, .cli, .brk, .plp, .rti]) ∧
    (bitD ∈ (footprint op m).flags → op ∈ [.sed, .cld, .plp, .rti]) ∧
    (bitV ∈ (footprint op m).flags → op ∈ [.adc, .sbc, .bit, .clv, .plp, .rti, .arr, .isc, .rra]) ∧
    (bitB ∈ (footprint op m).flags ∨ bitU ∈ (footprint op m).flags → op ∈ [.plp, .rti]) ∧
    (op ∈ [.sta, .stx, .sty, .txs, .jmp, .jsr, .rts, .brk, .nop, .pha, .php, .sax, .skb, .ign,
        .bcc, .bcs, .beq, .bne, .bmi, .bpl, .bvc, .bvs, .sec, .sed, .sei, .clc, .cld, .cli, .clv] →
      bitZ ∉ (footprint op m).flags ∧ bitN ∉ (footprint op m).flags) := by
  cases op <;> dsimp only [footprint] <;> decide

/-- What changed was written. -/
theorem written_of_ne {α : Type} {written : Bool} {v v' : α} (h : written = false → v' = v) (hne : v' ≠ v) :
    written = true :=
  eq_true_of_ne_false fun hw => hne (h hw)

theorem Effect.flag_of_ne {w : Footprint} {s t : State} (h : Effect w s t) {k : Nat} (hne : flag k t.p ≠ flag k s.p) :
    k ∈ w.flags :=
  not_imp_comm.mp (h.flags k) hne

/-! The statements. -/

/-- Settles O11: every host call keeps the invariant. -/
theorem invKept : Obligations.InvKept := fun _ _ hinv h => (step_keeps h).inv hinv

/-- Settles O12, by evaluation at the two start states. -/
theorem invAtStart : Obligations.InvAtStart := by
  unfold Obligations.InvAtStart
  decide

/-- Settles O13: every host call keeps the binding and the sticky bit, and a faulted block takes none. -/
theorem bindingKept : Obligations.BindingKept := fun _ _ h =>
  have hkeeps := step_keeps h
  ⟨hkeeps.params, hkeeps.faulted, hkeeps.faulted.trans (not_faulted_of_step h)⟩

/-- Settles O14: the table of the two start states, and `reset()` evaluated at power-on. -/
theorem startStates : Obligations.StartStates := by
  unfold Obligations.StartStates
  exact ⟨by decide, rfl, by decide⟩

/-- Settles O31: `exec` keeps to the table, and the lists are its columns. -/
theorem registerWriters : Obligations.RegisterWriters := by
  intro i s t h
  obtain ⟨u, n, he, -, -, rfl⟩ := exec_next h
  obtain ⟨hx, hy, hsp, hmem⟩ := footprint_registers i.operation i.operand
  obtain ⟨hC, hI, hD, hV, hBU, hZN⟩ := footprint_flags i.operation i.operand
  refine ⟨fun hne => (footprint_a i (written_of_ne he.a hne)).1, fun hne => (footprint_a i (written_of_ne he.a hne)).2,
    fun hne => hx (written_of_ne he.x hne), fun hne => hy (written_of_ne he.y hne),
    fun hne => hsp (written_of_ne he.sp hne), fun hne => hmem (written_of_ne he.mem hne),
    fun hne => hC (he.flag_of_ne hne), fun hne => hI (he.flag_of_ne hne), fun hne => hD (he.flag_of_ne hne),
    fun hne => hV (he.flag_of_ne hne), fun hne => hBU (hne.imp he.flag_of_ne he.flag_of_ne), fun hop => ?_⟩
  obtain ⟨hz, hn⟩ := hZN hop
  exact ⟨he.flags _ hz, he.flags _ hn⟩

end Sys2Proof.Machine
end

section
/-! PROOF. The bus contents and the bus (20_memory.md R50 to R54, R69). Canonical memories are determined by what they read
as, so the laws of writes follow from the one law of a read after a write. Each bus operation has one equation per kind of
access, and the contract of the bus is read off these. -/

namespace Sys2Proof.Machine

/-! The canonical form. -/

theorem Memory.read_head (k : Nat) (v : Byte) (rest : List Host.Cell) : Memory.read ((k, v) :: rest) k = v := if_pos rfl

/-- A written byte stands at or above the bound. -/
theorem Memory.le_of_read_ne {low a : Nat} {mem : List Host.Cell} (h : Memory.wfFrom low mem = true)
    (ha : Memory.read mem a ≠ unwrittenByte) : low ≤ a :=
  Nat.le_of_not_lt fun hlt => ha (Memory.read_below h hlt)

/-- Behind the first cell a canonical memory reads as the whole does, but for that cell's own address. -/
theorem Memory.read_tail {k : Nat} {v : Byte} {rest : List Host.Cell} (h : Memory.wfFrom (k + 1) rest = true) (a : Nat) :
    Memory.read rest a = if a = k then unwrittenByte else Memory.read ((k, v) :: rest) a := by
  split
  · rename_i hak
    exact Memory.read_below h (by omega)
  · rename_i hak
    exact (if_neg hak).symm

/-- The first listed address of one canonical memory is not below that of another that reads alike. -/
theorem Memory.head_le_head {low k l : Nat} {u v : Byte} {m n : List Host.Cell} (hm : Memory.wfFrom low ((k, u) :: m) = true)
    (hn : Memory.wfFrom low ((l, v) :: n) = true)
    (h : ∀ a, Memory.read ((k, u) :: m) a = Memory.read ((l, v) :: n) a) : l ≤ k := by
  obtain ⟨-, -, hu, -⟩ := Memory.wfFrom_cons.mp hm
  obtain ⟨-, hl, hv, hrest⟩ := Memory.wfFrom_cons.mp hn
  refine Memory.le_of_read_ne (Memory.wfFrom_cons.mpr ⟨le_rfl, hl, hv, hrest⟩) ?_
  rwa [← h, Memory.read_head]

/-- Canonical memories above a bound that read alike are the same list: their first cells agree, and so do the rests. -/
theorem Memory.eq_of_read_from {low : Nat} {m n : List Host.Cell} (hm : Memory.wfFrom low m = true)
    (hn : Memory.wfFrom low n = true) (h : ∀ a, Memory.read m a = Memory.read n a) : m = n := by
  induction m generalizing low n with
  | nil =>
    cases n with
    | nil => rfl
    | cons d n =>
      obtain ⟨-, -, hv, -⟩ := Memory.wfFrom_cons.mp hn
      exact absurd ((Memory.read_head ..).symm.trans (h d.1).symm) hv
  | cons c m ih =>
    obtain ⟨k, u⟩ := c
    obtain ⟨-, -, hu, hm'⟩ := Memory.wfFrom_cons.mp hm
    cases n with
    | nil => exact absurd ((Memory.read_head ..).symm.trans (h k)) hu
    | cons d n =>
      obtain ⟨l, v⟩ := d
      obtain ⟨-, -, -, hn'⟩ := Memory.wfFrom_cons.mp hn
      obtain rfl : k = l := Nat.le_antisymm (Memory.head_le_head hn hm fun a => (h a).symm) (Memory.head_le_head hm hn h)
      have huv : u = v := by simpa only [Memory.read_head] using h k
      have hrest : m = n := ih hm' hn' fun a => by rw [Memory.read_tail (v := u) hm', Memory.read_tail (v := v) hn', h]
      rw [huv, hrest]

/-- Canonical memories that read alike at every address are the same list. -/
theorem Memory.eq_of_read {m n : List Host.Cell} (hm : Memory.wf m = true) (hn : Memory.wf n = true)
    (h : ∀ a, Memory.read m a = Memory.read n a) : m = n := Memory.eq_of_read_from hm hn h

theorem Memory.write_write_comm {m : List Host.Cell} {a b : Nat} (u v : Byte) (hm : Memory.wf m = true) (ha : a < 65536)
    (hb : b < 65536) (hab : a ≠ b) :
    Memory.write (Memory.write m a u) b v = Memory.write (Memory.write m b v) a u := by
  have hu := Memory.write_wf (v := u) ha hm
  have hv := Memory.write_wf (v := v) hb hm
  refine Memory.eq_of_read (Memory.write_wf hb hu) (Memory.write_wf ha hv) fun c => ?_
  rw [Memory.read_write hu, Memory.read_write hm, Memory.read_write hv, Memory.read_write hm]
  by_cases hc : c = a
  · simp [hc, hab]
  · simp [hc]

theorem Memory.write_write_same {m : List Host.Cell} {a : Nat} (u v : Byte) (hm : Memory.wf m = true) (ha : a < 65536) :
    Memory.write (Memory.write m a u) a v = Memory.write m a v := by
  have hu := Memory.write_wf (v := u) ha hm
  refine Memory.eq_of_read (Memory.write_wf ha hu) (Memory.write_wf ha hm) fun c => ?_
  rw [Memory.read_write hu, Memory.read_write hm, Memory.read_write hm]
  split <;> rfl

/-! One access of the bus, by what the bus has at the address. -/

section
variable {s : State} {a : Word}

theorem memRead_ram (h : accessAt s.params.bus a = .ram) :
    memRead a s = .next (byteAt s a, { s with busOps := s.busOps ++ [.read a (byteAt s a)] }) := by
  simp [memRead, busRead, busByte, byteAt, logOp, h]

theorem memRead_device (h : accessAt s.params.bus a = .device) :
    memRead a s = .next (Config.deviceByte s.deviceReads a, { s with
      busOps := s.busOps ++ [.read a (Config.deviceByte s.deviceReads a)], deviceReads := s.deviceReads + 1 }) := by
  simp [memRead, busRead, busByte, logOp, h]

theorem memRead_absent_fault (h : accessAt s.params.bus a = .absent) (hp : s.params.absentPolicy = .fault) :
    memRead a s = .fault (.busFault a) := by
  simp [memRead, busRead, h, hp]

theorem memRead_absent_default {b : Byte} (h : accessAt s.params.bus a = .absent)
    (hp : s.params.absentPolicy = .defaultByte b) :
    memRead a s = .next (b, { s with busOps := s.busOps ++ [.read a b] }) := by
  simp [memRead, busRead, busByte, logOp, h, hp]

/-- Only RAM takes a write (20_memory.md R54). -/
theorem store_of_ne_ram (v : Byte) (h : accessAt s.params.bus a ≠ .ram) : store a v s = s := by
  unfold store
  split
  · contradiction
  · rfl
  · rfl

/-- A write is one bus operation and, whatever the bus has there, changes the bytes alone. -/
theorem memWrite_eq (a : Word) (v : Byte) (s : State) :
    memWrite a v s = { s with mem := (memWrite a v s).mem, busOps := s.busOps ++ [.write a v] } := by
  rw [memWrite, store_eq]
  rfl

theorem memWrite_of_ne_ram (v : Byte) (h : accessAt s.params.bus a ≠ .ram) :
    memWrite a v s = { s with busOps := s.busOps ++ [.write a v] } := by
  rw [memWrite, store_of_ne_ram v h]
  rfl

/-- The bytes after a store into RAM: the stored byte at its address, every other byte as before. -/
theorem byteAt_store_ram (v : Byte) (h : accessAt s.params.bus a = .ram) (hm : Memory.wf s.mem = true) :
    byteAt (store a v s) a = v ∧ ∀ b, b ≠ a → byteAt (store a v s) b = byteAt s b := by
  have hmem : (store a v s).mem = Memory.write s.mem a.toNat v := by simp [store, h]
  refine ⟨?_, fun b hb => ?_⟩
  · rw [byteAt, hmem, Memory.read_write hm, if_pos rfl]
  · rw [byteAt, hmem, Memory.read_write hm, if_neg fun hn => hb (BitVec.eq_of_toNat_eq hn), byteAt]

theorem accessAt_of_flatBus (h : FlatBus s) (a : Word) : accessAt s.params.bus a = .ram :=
  (congrArg (accessAt · a) h).trans (accessAt_flat a)

end

/-! The statements. -/

/-- Settles O22: the laws of writes from the law of a read after a write, by extensionality of the canonical form. -/
theorem canonicalMemory : Obligations.CanonicalMemory :=
  ⟨fun _ _ hm hn => Memory.eq_of_read hm hn,
    fun _ _ _ hm ha => ⟨Memory.write_wf ha hm, fun _ => Memory.read_write hm⟩,
    fun _ _ _ u v hm ha hb hab => Memory.write_write_comm u v hm ha hb hab,
    fun _ _ u v hm ha => Memory.write_write_same u v hm ha⟩

/-- Settles O23: one clause for each kind of access and operation. -/
theorem busAccess : Obligations.BusAccess := by
  refine ⟨fun s a => memRead_absent_fault, fun s a b => memRead_absent_default, fun s a v h => ?absentWrite,
    fun s a => memRead_ram, fun s a v h => ?ramWrite, fun s a h => ⟨_, memRead_device h⟩, fun s a v h => ?deviceWrite,
    fun s a h => ?flat⟩
  case absentWrite => exact memWrite_of_ne_ram v (by simp [h])
  case ramWrite => exact ⟨memWrite_eq a v s, byteAt_store_ram v h⟩
  case deviceWrite => exact memWrite_of_ne_ram v (by simp [h])
  case flat => exact ⟨accessAt_of_flatBus h a, memRead_ram (accessAt_of_flatBus h a)⟩

/-- Settles O24: the step is the host's own store into RAM, with the call taken and no bus operation left. -/
theorem writeSeen : Obligations.WriteSeen := by
  intro s rest a v hflat hmem hs hin
  have hstep : step s = .next (store a v (begun s)) := by
    rw [step_eq s hs, hin]
    rfl
  have htaken : (begun s).inputs = rest := by rw [begun, hin]; rfl
  refine ⟨_, hstep, ?_, byteAt_store_ram v (accessAt_of_flatBus (s := begun s) hflat a) hmem⟩
  rw [store_eq, ← htaken]
  rfl

end Sys2Proof.Machine
end

section
/-! PROOF. The encoding (30_encoding.md R80 to R88). One relation says which operand bytes a shape of the opcode matrix reads
as which instruction. The decoder answers exactly what the relation gives (`decode_of_reads`, `reads_of_decode`), and the
relation is matched against the encoder in two case splits: over the instructions (`opcodeByte_reads`) and over the
opcode bytes (`encode_of_reads`). The round trips follow. -/

namespace Sys2Proof

open Machine

/-! What a shape reads. -/

/-- A shape reads operand bytes, exactly as many as its format has (30_encoding.md R80), as an instruction. -/
inductive Shape.Reads : Shape → List Byte → Instr → Prop
  | op (i : Instr) : Reads (.op i) [] i
  | d8 (make : Byte → Instr) (d : Byte) : Reads (.d8 make) [d] (make d)
  | a16 (make : Word → Instr) (a : Word) : Reads (.a16 make) [a.extractLsb' 0 8, a.extractLsb' 8 8] (make a)

/-- A branch's displacement in range is read back from its byte (30_encoding.md R82). -/
theorem Shape.Reads.displacement {offset : Int} (make : Int → Instr) (h : displacementInRange offset = true) :
    Reads (.d8 fun d => make (displacementOf d)) [displacementByte offset] (make offset) := by
  have hread := Reads.d8 (fun d => make (displacementOf d)) (displacementByte offset)
  rwa [displacementOf_byte h] at hread

/-- The two operand bytes of a word made of two bytes are these, low byte first (30_encoding.md R82). -/
theorem operandBytes_append (hi lo : Byte) :
    [(hi ++ lo : Word).extractLsb' 0 8, (hi ++ lo : Word).extractLsb' 8 8] = [lo, hi] := by
  rw [BitVec.extractLsb'_append_eq_right, BitVec.extractLsb'_append_eq_left]

theorem decode_of_reads {b : Byte} {t : Shape} {ops : List Byte} {i : Instr} (hs : shapeOf b = some t)
    (hr : t.Reads ops i) (rest : List Byte) : decode (b :: ops ++ rest) = .ok (i, rest) := by
  cases hr with
  | op i => exact decode_op hs rest
  | d8 make d => exact decode_d8 hs d rest
  | a16 make a => exact (decode_a16 hs _ _ rest).trans (by rw [operand_word])

theorem reads_of_decode {bs rest : List Byte} {i : Instr} (h : decode bs = .ok (i, rest)) :
    ∃ b t ops, shapeOf b = some t ∧ t.Reads ops i ∧ bs = b :: ops ++ rest := by
  unfold decode at h
  split at h
  · cases h
  split at h <;> cases h
  next hs => exact ⟨_, _, _, hs, .op i, rfl⟩
  next make d hs => exact ⟨_, _, _, hs, .d8 make d, rfl⟩
  next make lo hi hs => exact ⟨_, _, _, hs, .a16 make (hi ++ lo), by rw [operandBytes_append]; rfl⟩

/-! The matrix and the encoder. -/

/-- The matrix reads an instruction's own operand bytes as that instruction. Well-formedness is needed by the eight
branches alone: their byte holds the displacement only when it is in range (30_encoding.md R82). -/
theorem opcodeByte_reads (i : Instr) (h : i.wellFormed = true) :
    ∃ t, shapeOf i.opcodeByte = some t ∧ t.Reads i.operand.bytes i := by
  cases i <;> dsimp only [Instr.opcodeByte, Instr.row]
  case bcc | bcs | beq | bne | bmi | bpl | bvc | bvs => exact ⟨_, rfl, .displacement _ h⟩
  all_goals exact ⟨_, rfl, by constructor⟩

/-- A byte is its two nibbles: the row and the column of the opcode matrix. -/
theorem byte_nibbles {P : Byte → Prop} (nibbles : ∀ hi lo : Fin 16, P (BitVec.ofNat 8 (16 * hi + lo))) (b : Byte) : P b := by
  have hb := b.isLt
  have h := nibbles ⟨b.toNat / 16, by omega⟩ ⟨b.toNat % 16, by omega⟩
  rwa [Nat.div_add_mod, BitVec.ofNat_toNat, BitVec.setWidth_eq] at h

/-- What the matrix reads is well-formed and encodes as the bytes read. Each cell's instruction says so itself, but for the
eight branches, whose displacement has to be turned back into its byte (30_encoding.md R82). -/
theorem encode_of_reads {b : Byte} {t : Shape} {ops : List Byte} {i : Instr} (hs : shapeOf b = some t)
    (hr : t.Reads ops i) : i.wellFormed = true ∧ encode i = b :: ops := by
  induction b using byte_nibbles with
  | nibbles hi lo =>
    fin_cases hi <;> fin_cases lo <;> cases hs <;> cases hr
    any_goals exact ⟨rfl, rfl⟩
    all_goals exact ⟨displacementOf_inRange _, congrArg (fun d => [_, d]) (displacementByte_of _)⟩

/-! Lengths and descriptors. -/

theorem Operand.length_bytes (m : Operand) : m.bytes.length = m.mode.operandBytes := by
  cases m <;> rfl

theorem length_encode (i : Instr) : (encode i).length = i.length := by
  rw [encode, List.length_cons, Operand.length_bytes, ← mode_operand, Instr.length, Nat.add_comm]

/-- The lengths of the thirteen modes (30_encoding.md R81). -/
theorem length_of_mode (i : Instr) :
    (i.mode ∈ [.implied, .accumulator] → i.length = 1) ∧
    (i.mode ∈ [.immediate, .zeroPage, .zeroPageX, .zeroPageY, .relative, .indirectX, .indirectY] → i.length = 2) ∧
    (i.mode ∈ [.absolute, .absoluteX, .absoluteY, .indirect] → i.length = 3) := by
  rw [Instr.length]
  cases i.mode <;> decide

theorem descriptor_eq_of_opcodeByte_eq {i j : Instr} (h : i.opcodeByte = j.opcodeByte) : i.descriptor = j.descriptor :=
  Option.some.inj <| by rw [← descriptorOf_opcodeByte, h, descriptorOf_opcodeByte]

/-- The length is read off the descriptor, through its mode (30_encoding.md R81). -/
theorem length_eq_of_descriptor_eq {i j : Instr} (h : i.descriptor = j.descriptor) : i.length = j.length :=
  congrArg (fun d : Descriptor => 1 + d.mode.operandBytes) h

theorem shapeOf_eq_none_of_descriptorOf {b : Byte} (h : descriptorOf b = none) : shapeOf b = none :=
  Option.map_eq_none_iff.mp h

/-- The unassigned bytes, over the 256 bytes (30_encoding.md R86). -/
theorem descriptorOf_eq_none_iff : ∀ b : Byte, descriptorOf b = none ↔
    b ∈ [0x02, 0x12, 0x1A, 0x22, 0x32, 0x3A, 0x42, 0x52, 0x5A, 0x62, 0x72, 0x7A, 0x8B, 0x92, 0x93, 0x9B, 0x9C, 0x9E,
      0x9F, 0xAB, 0xB2, 0xBB, 0xD2, 0xDA, 0xEB, 0xF2, 0xFA] := by
  decide

/-- The base cycle counts, over the 256 bytes (30_encoding.md R88). -/
theorem baseCycles_of_descriptorOf : ∀ b : Byte, ∀ d ∈ descriptorOf b,
    2 ≤ d.baseCycles ∧ d.baseCycles ≤ 8 ∧ (d.operation.unofficial = false → d.baseCycles ≤ 7) := by
  decide

/-! The statements. -/

/-- Settles O1: the matrix reads the instruction's own operand bytes as the instruction, and the decoder answers what the
matrix reads. -/
theorem decodeEncode : Obligations.DecodeEncode := by
  intro i rest h
  obtain ⟨t, hs, hr⟩ := opcodeByte_reads i h
  exact decode_of_reads hs hr rest

/-- Settles O2: what the decoder answers the matrix reads from the bytes consumed, and these are its encoding. -/
theorem encodeDecode : Obligations.EncodeDecode := by
  intro bs i rest h
  obtain ⟨b, t, ops, hs, hr, rfl⟩ := reads_of_decode h
  obtain ⟨hwf, henc⟩ := encode_of_reads hs hr
  exact ⟨hwf, by rw [henc]⟩

/-- Settles O5: the length by the mode, and the descriptor by the opcode byte. -/
theorem lengthByMode : Obligations.LengthByMode := by
  refine ⟨fun i => ⟨length_encode i, length_of_mode i⟩, fun i j h => ?_⟩
  have hd := descriptor_eq_of_opcodeByte_eq h
  exact ⟨length_eq_of_descriptor_eq hd, hd⟩

/-- Settles O3: the two checks over all bytes; a byte without a descriptor has no shape, so it is refused whatever follows. -/
theorem unassignedBytes : Obligations.UnassignedBytes :=
  ⟨descriptorOf_eq_none_iff, fun _ rest h => decode_unassigned (shapeOf_eq_none_of_descriptorOf h) rest,
    baseCycles_of_descriptorOf⟩

/-- Settles O4: the decoder evaluated on each word. -/
theorem specWords : Obligations.SpecWords :=
  ⟨rfl, rfl, rfl, rfl, rfl, rfl, rfl, rfl, rfl, rfl, rfl, rfl, rfl⟩

end Sys2Proof
end

section
/-! PROOF. The clock state machine and `fetch()` (40_cpu_cycle.md R100 to R109): what a pulse does mid-instruction and at a
boundary, and when a host `fetch()` has nothing to read. -/

namespace Sys2Proof.Machine

/-! The transition as one host call. -/

section
variable {s t : State}

theorem step_cons {e : HostEvent} {rest : List HostEvent} (hs : s.faulted = false) (hin : s.inputs = e :: rest) :
    step s = hostCall e { s with inputs := rest, busOps := [] } := by
  simp [step, transition, hs, hin]

theorem step_nil (hs : s.faulted = false) (hin : s.inputs = []) : step s = clock { s with busOps := [] } := by
  simp [step, transition, hs, hin]

theorem step_clock (h : ClockDue s) : step s = clock (begun s) := by
  obtain ⟨hs, hin⟩ := h
  rw [step_eq s hs]
  obtain hin | hin := hin <;> rw [hin] <;> rfl

theorem clock_mid (h : s.cycles ≠ 0) : clock s = .next { s with cycles := s.cycles - 1 } := if_neg h

/-- At a boundary `clock()` runs the instruction the bus delivers (40_cpu_cycle.md R101, R103). -/
theorem clock_boundary (h : s.cycles = 0) {r : Byte × State} (hread : memRead s.pc s = .next r) {i : Instr}
    {rest : List Byte} (hdecode : decode (r.1 :: operandBytesAt (s.pc + 1) r.2) = .ok (i, rest)) :
    clock s = andThen (exec i r.2) fun t => .next { t with cycles := t.cycles - 1 } := by
  rw [clock, if_pos h, executeOneInstruction, hread, andThen_next, hdecode]

theorem step_boundary (hdue : ClockDue s) (hc : s.cycles = 0) {r : Byte × State}
    (hread : memRead s.pc (begun s) = .next r) {i : Instr} {rest : List Byte}
    (hdecode : decode (r.1 :: operandBytesAt (s.pc + 1) r.2) = .ok (i, rest)) :
    step s = andThen (exec i r.2) fun t => .next { t with cycles := t.cycles - 1 } :=
  (step_clock hdue).trans (clock_boundary (s := begun s) hc hread hdecode)

theorem operandBytesAt_flat (h : s.params.bus = .flat) (a : Word) :
    operandBytesAt a s = [byteAt s a, byteAt s (a + 1)] := by
  simp [operandBytesAt, peek, memRead_flat, h, byteAt]

/-- On the flat bus the bytes decoded are those of the RAM, whatever operations came before (20_memory.md R53). -/
theorem instructionBytes_flat (h : FlatBus s) (ops : List BusOp) :
    instructionBytes s = byteAt s s.pc :: operandBytesAt (s.pc + 1) { begun s with busOps := ops } := by
  have hnext : s.pc + 2 = s.pc + 1 + 1 := by bv_omega
  rw [operandBytesAt_flat (by exact h), instructionBytes, hnext]
  rfl

end

theorem run_succ {M : Host.Core} {s t : M.State} (h : M.step s = .next t) (n : Nat) : M.run (n + 1) s = M.run n t := by
  rw [Host.Core.run, h]

/-- The pulses owed are counted down to the boundary, and nothing else happens (40_cpu_cycle.md R102). -/
theorem run_countdown (n : Nat) (s : State) (hs : s.faulted = false) (hin : s.inputs = [])
    (hn : s.cycles.toNat = n + 1) :
    (Host.Core.run Sys2Proof.core (n + 1) s : Host.Outcome State Fault Refusal) =
      .next { s with cycles := 0, busOps := [] } := by
  induction n generalizing s with
  | zero =>
    have hlast : s.cycles = 1 := by bv_omega
    have hstep : step s = .next { s with cycles := 0, busOps := [] } := by
      rw [step_nil hs hin, clock_mid (by simp [hlast])]
      simp [hlast]
    exact run_succ (M := Sys2Proof.core) hstep 0
  | succ n ih =>
    have hmid : s.cycles ≠ 0 := by bv_omega
    have hstep : step s = .next { s with cycles := s.cycles - 1, busOps := [] } :=
      (step_nil hs hin).trans (clock_mid hmid)
    have hrest : (s.cycles - 1).toNat = n + 1 := by bv_omega
    exact (run_succ (M := Sys2Proof.core) hstep (n + 1)).trans (ih _ hs hin hrest)

/-! `fetch()`. -/

/-- A call of `fetch()` has nothing to read: the latched instruction has no operand address, or its operand is latched
(40_cpu_cycle.md R108). -/
def OperandSettled (s : State) : Prop :=
  s.instrLatched = true ∧ ∃ d, descriptorOf s.opcode = some d ∧ (hasNoAddress d.mode = true ∨ s.fetchValid = true)

theorem hasNoAddress_iff (m : Mode) : hasNoAddress m = true ↔ m ∈ [.implied, .accumulator, .relative] := by
  cases m <;> decide

section
variable {s t : State}

theorem fetchCall_latched {d : Descriptor} (hl : s.instrLatched = true) (hd : descriptorOf s.opcode = some d) :
    fetchCall s = andThen (fetchBy (fun u => memRead u.addressAbsolute u) d.mode s) fun r => .next r.2 := by
  rw [fetchCall, if_pos hl, hd]

theorem fetchBy_settled {m : Mode} (h : hasNoAddress m = true ∨ s.fetchValid = true)
    (deliver : State → Res (Byte × State)) : fetchBy deliver m s = .next (s.fetched, s) := by
  unfold fetchBy
  obtain h | h := h <;> simp [h]

theorem fetchBy_reads {m : Mode} (hm : hasNoAddress m = false) (hv : s.fetchValid = false)
    (deliver : State → Res (Byte × State)) :
    fetchBy deliver m s = andThen (deliver s) fun r => .next (r.1, { r.2 with fetched := r.1, fetchValid := true }) := by
  simp [fetchBy, hm, hv]

theorem fetchCall_settled (h : OperandSettled s) : fetchCall s = .next s := by
  obtain ⟨hl, d, hd, h⟩ := h
  rw [fetchCall_latched hl hd, fetchBy_settled h, andThen_next]

/-- Where there is an operand to read, `fetch()` reads it once and latches it. -/
theorem fetchCall_reads_flat {d : Descriptor} (hflat : s.params.bus = .flat) (hl : s.instrLatched = true)
    (hd : descriptorOf s.opcode = some d) (hm : hasNoAddress d.mode = false) (hv : s.fetchValid = false) :
    fetchCall s = .next { s with
      fetched := byteAt s s.addressAbsolute, fetchValid := true
      busOps := s.busOps ++ [.read s.addressAbsolute (byteAt s s.addressAbsolute)] } := by
  rw [fetchCall_latched hl hd, fetchBy_reads hm hv, memRead_flat hflat]
  rfl

/-- A `fetch()` that answers leaves nothing to read, after one read at most. -/
theorem fetchCall_next (h : fetchCall s = .next t) :
    OperandSettled t ∧ (t = s ∨ ∃ (b : Byte) (n : Nat), t = { s with
      fetched := b, fetchValid := true, busOps := s.busOps ++ [.read s.addressAbsolute b], deviceReads := n }) := by
  unfold fetchCall at h
  split at h
  next hl =>
    split at h
    next d hd =>
      obtain ⟨q, hq, h⟩ := andThen_eq_next h
      cases h
      by_cases hsettled : hasNoAddress d.mode = true ∨ s.fetchValid = true
      · rw [fetchBy_settled hsettled] at hq
        cases hq
        exact ⟨⟨hl, d, hd, hsettled⟩, .inl rfl⟩
      · obtain ⟨hm, hv⟩ := not_or.mp hsettled
        rw [fetchBy_reads (Bool.eq_false_of_not_eq_true hm) (Bool.eq_false_of_not_eq_true hv)] at hq
        obtain ⟨r, hr, hq⟩ := andThen_eq_next hq
        cases hq
        obtain ⟨hbyte, hstate⟩ := memRead_next hr
        rw [hstate]
        exact ⟨⟨hl, d, hd, .inr rfl⟩, .inr ⟨_, _, by rw [hbyte]⟩⟩
    next => cases h
  next => cases h

end

/-! The statements. -/

/-- Settles O7: a pulse mid-instruction is one step of the countdown, and the run is induction on the pulses owed. -/
theorem countdownToBoundary : Obligations.CountdownToBoundary := by
  refine ⟨fun s hdue h => (step_clock hdue).trans (clock_mid h), fun n s hs hin hn hpos => ?_⟩
  obtain ⟨n, rfl⟩ := Nat.exists_eq_add_one.mpr hpos
  exact run_countdown n s hs hin hn

/-- Settles O19 (its own name is the model's function): the latch is settled, or one read of the flat RAM settles it. -/
theorem fetchCall_flat : Obligations.FetchCall := by
  intro s rest d hflat hs hin hl hd
  rw [step_cons hs hin]
  refine ⟨fun h => fetchCall_settled ⟨hl, d, hd, h.imp_left (hasNoAddress_iff _).mpr⟩, fun hm hv => ?_⟩
  have hm := Bool.eq_false_of_not_eq_true (mt (hasNoAddress_iff d.mode).mp hm)
  exact fetchCall_reads_flat hflat hl hd hm hv

/-- Settles O20: the first call leaves a settled latch, and a settled latch answers without a read. -/
theorem fetchIdempotent : Obligations.FetchIdempotent := by
  intro s t u rest hin hst htu
  have hs := not_faulted_of_step hst
  rw [step_cons hs hin] at hst
  obtain ⟨hsettled, ht⟩ := fetchCall_next hst
  have hcalls : t.inputs = .fetch :: rest ∧ t.busOps.length ≤ 1 ∧
      s.mem = t.mem ∧ s.pc = t.pc ∧ s.p = t.p ∧ s.cycles = t.cycles := by
    obtain rfl | ⟨b, n, rfl⟩ := ht <;> simp
  obtain ⟨hnext, hops, hframe⟩ := hcalls
  rw [step_cons (not_faulted_of_step htu) hnext] at htu
  cases (fetchCall_settled (s := { t with inputs := rest, busOps := [] }) hsettled).symm.trans htu
  exact ⟨hops, rfl, hframe⟩

/-- Settles O6: the host call due is `clock()`, at a boundary it runs what the bus delivers, and the flat bus delivers the
bytes of the RAM. -/
theorem stepRunsInstruction : Obligations.StepRunsInstruction := by
  refine ⟨fun s i rest hflat hdue hc hdecode => ?_, fun _ _ _ _ hdue hc hread hdecode => ?_⟩
  · rw [instructionBytes_flat hflat [.read s.pc (byteAt s s.pc)]] at hdecode
    exact step_boundary hdue hc (memRead_flat (s := begun s) hflat s.pc) hdecode
  · exact step_boundary hdue hc hread hdecode

end Sys2Proof.Machine
end

section
/-! PROOF. The cost of an instruction (40_cpu_cycle.md R106, R107) on every bus, and on the flat bus where the page
crossing is `crosses` (41_addressing_modes.md R134). -/

namespace Sys2Proof.Machine

/-! The three terms of the cost. -/

/-- The smallest base of every row of the opcode table (30_encoding.md R88). -/
theorem two_le_baseCycles (i : Instr) : 2 ≤ i.baseCycles :=
  (baseCycles_of_descriptorOf i.opcodeByte i.descriptor (descriptorOf_opcodeByte i)).1

/-- PAGE_PENALTY_CLASS as a list (40_cpu_cycle.md R107). -/
theorem pagePenaltyClass_iff (u : UnofficialExec) (op : Operation) : pagePenaltyClass u op = true ↔
    op ∈ [.lda, .ldx, .ldy, .adc, .sbc, .and, .eor, .ora, .cmp] ∨ u = .full ∧ op ∈ [.lax, .ign] := by
  cases op <;> simp [pagePenaltyClass]

theorem pagePenalty_eq (u : UnofficialExec) (op : Operation) (crossed : Bool) :
    pagePenalty u op crossed = if crossed = true ∧
      (op ∈ [.lda, .ldx, .ldy, .adc, .sbc, .and, .eor, .ora, .cmp] ∨ u = .full ∧ op ∈ [.lax, .ign]) then 1 else 0 := by
  simp only [pagePenalty, Bool.and_eq_true, pagePenaltyClass_iff]

/-- Only a branch adds extra cycles, two at most (46_control_transfer.md R194). -/
theorem footprint_extra (op : Operation) (m : Operand) : (footprint op m).extra ≤ 2 ∧
    (op ∉ [.bcc, .bcs, .beq, .bne, .bmi, .bpl, .bvc, .bvs] → (footprint op m).extra = 0) := by
  cases op <;> dsimp only [footprint] <;> decide

/-- The dearest case of every official row (30_encoding.md R84). -/
theorem dearest_official_cost {i : Instr} (h : i.operation.unofficial = false) :
    i.baseCycles + pagePenalty .full i.operation true + (footprint i.operation i.operand).extra ≤ 7 := by
  have hrow : i.baseCycles + pagePenalty .full i.operation true + (footprint i.operation i.operand).extra ≤
      if i.operation.unofficial then 8 else 7 := by
    cases i <;> exact Nat.le_of_ble_eq_true rfl
  rw [h] at hrow
  exact hrow

/-- What `cycles` holds after an instruction that answers: the base, the penalty for what the resolver reports crossed, and
the executor's extra, within the footprint. On the flat bus the resolver reports `crosses`. -/
theorem exec_cycles {i : Instr} {s t : State} (h : exec i s = .next t) :
    ∃ (crossed : Bool) (extra : Nat), (FlatBus s → crossed = crosses i.operand s) ∧
      extra ≤ (footprint i.operation i.operand).extra ∧
      t.cycles.toNat = i.baseCycles + pagePenalty s.params.unofficialExec i.operation crossed + extra := by
  rw [exec_runs i s (permitted_of_exec h)] at h
  obtain ⟨q, hresolve, h⟩ := andThen_eq_next h
  obtain ⟨r, hrun, h⟩ := andThen_eq_next h
  cases h
  have hextra := (runs_within _ _ _ _ _ hrun).2
  have hpenalty := pagePenalty_le s.params.unofficialExec i.operation q.1
  have hcost := (dearest_cost i).2
  refine ⟨q.1, r.1, fun hflat => ?_, hextra, Nat.mod_eq_of_lt (by omega)⟩
  cases (resolve_resolvedState i hflat).symm.trans hresolve
  rfl

/-! The page crossing. -/

/-- Adding an index leaves the page exactly when the low bytes' sum passes 255. -/
theorem pageDiffers_indexed (base : Word) (index : Byte) :
    pageDiffers (base + zext16 index) base = true ↔ 256 ≤ base.toNat % 256 + index.toNat := by
  have hindex := index.isLt
  rw [pageDiffers, decide_eq_true_iff, ne_eq, ← BitVec.toNat_inj, hiByte_toNat, hiByte_toNat, BitVec.toNat_add,
    zext16_toNat]
  omega

theorem pointerAt_low (s : State) (a : Word) : (pointerAt s a).toNat % 256 = (byteAt s a).toNat := by
  rw [pointerAt, wordOf_toNat, byteAt]
  omega

theorem crosses_iff (m : Operand) (s : State) : crosses m s = true ↔
    (∃ w : Word, m = .absoluteX w ∧ 256 ≤ w.toNat % 256 + s.x.toNat) ∨
    (∃ w : Word, m = .absoluteY w ∧ 256 ≤ w.toNat % 256 + s.y.toNat) ∨
    (∃ d : Byte, m = .indirectY d ∧ 256 ≤ (byteAt s (zext16 d)).toNat + s.y.toNat) := by
  cases m with
  | absoluteX w => exact (pageDiffers_indexed w s.x).trans (by simp)
  | absoluteY w => exact (pageDiffers_indexed w s.y).trans (by simp)
  | indirectY d => exact (pageDiffers_indexed (pointerAt s (zext16 d)) s.y).trans (by simp [pointerAt_low])
  | implied | accumulator | immediate _ | zeroPage _ | zeroPageX _ | zeroPageY _ | absolute _ | relative _ | indirect _
  | indirectX _ => simp [crosses]

/-! The statement. -/

/-- Settles O30: the three terms by the frame of every instruction, their bounds by the table, the crossing by the sum of
the low bytes. -/
theorem cost : Obligations.Cost := by
  refine ⟨fun i s t hflat h => ?_, crosses_iff⟩
  obtain ⟨crossed, extra, hcrossed, hextra, hcycles⟩ := exec_cycles h
  have hbase := two_le_baseCycles i
  have hpenalty := pagePenalty_le s.params.unofficialExec i.operation crossed
  obtain ⟨htwo, hbranch⟩ := footprint_extra i.operation i.operand
  obtain ⟨-, hdearest⟩ := dearest_cost i
  refine ⟨extra, ?_, hextra.trans htwo, fun hop => ?_, by omega, by omega, fun hop => ?_⟩
  · rw [hcycles, hcrossed hflat, pagePenalty_eq]
  · exact Nat.eq_zero_of_le_zero (hbranch hop ▸ hextra)
  · have hofficial := dearest_official_cost hop
    omega

end Sys2Proof.Machine
end

section
/-! PROOF. Completion (40_cpu_cycle.md R110): on a bus whose reads cannot fail every operation of the block answers, and the
bus operations made before it stay in front of its own. One relation says so (`Completes`), it composes along `andThen`, and
each operation has it once. -/

namespace Sys2Proof.Machine

/-! The relation. -/

/-- `t` has the parameters of `s`, and its bus operations go on from those of `s`. -/
structure Extends (s t : State) : Prop where
  params : t.params = s.params
  busOps : ∃ ops, t.busOps = s.busOps ++ ops

namespace Extends

variable {s t u : State}

theorem trans (h : Extends s t) (k : Extends t u) : Extends s u where
  params := k.params.trans h.params
  busOps := by
    obtain ⟨ops, hops⟩ := h.busOps
    obtain ⟨ops', hops'⟩ := k.busOps
    exact ⟨ops ++ ops', by rw [hops', hops, List.append_assoc]⟩

/-- A write of registers, latches or pc is neither of parameters nor of bus operations. -/
theorem kept (hp : t.params = s.params := by rfl) (ho : t.busOps = s.busOps := by rfl) : Extends s t :=
  ⟨hp, [], by rw [ho, List.append_nil]⟩

end Extends

/-- On a bus that cannot fail `r` is an answer, and the state `left` finds in it extends `s`. -/
structure Completes {α : Type} (s : State) (left : α → State) (r : Res α) : Prop where
  answer : TotalBus s → ∃ v, r = .next v ∧ Extends s (left v)

namespace Completes

variable {α β : Type} {s t : State} {left : α → State} {left' : β → State}

theorem next {v : α} (h : Extends s (left v)) : Completes s left (.next v) := ⟨fun _ => ⟨v, rfl, h⟩⟩

theorem of_extends {r : Res α} (h : Extends s t) (k : Completes t left r) : Completes s left r where
  answer hs := by
    obtain ⟨v, hv, hk⟩ := k.answer (by rwa [TotalBus, h.params])
    exact ⟨v, hv, h.trans hk⟩

theorem andThen {r : Res α} {k : α → Res β} (h : Completes s left r) (hk : ∀ v, Completes (left v) left' (k v)) :
    Completes s left' (andThen r k) where
  answer hs := by
    obtain ⟨v, rfl, hv⟩ := h.answer hs
    exact (of_extends hv (hk v)).answer hs

end Completes

/-! The bus and the stack. -/

/-- The one operation that can fail, and on such a bus does not (20_memory.md R54). -/
theorem busRead_completes (a : Word) (v : Byte) (s : State) : Completes s id (busRead a v s) where
  answer hs := by
    cases h : busRead a v s with
    | next t =>
      have ht := busRead_next h
      exact ⟨t, rfl, by rw [ht]; rfl, [.read a v], by rw [ht]; rfl⟩
    | fault f =>
      obtain ⟨-, habsent, hpolicy⟩ := busRead_fault h
      obtain hflat | hdefault := hs
      · simp [hflat] at habsent
      · exact absurd hpolicy hdefault
    | refused f => exact absurd h busRead_not_refused

theorem memRead_completes (a : Word) (s : State) : Completes s Prod.snd (memRead a s) :=
  (busRead_completes a _ s).andThen fun _ => .next .kept

theorem next8_completes (d : Byte) (s : State) : Completes s id (next8 d s) :=
  (busRead_completes _ d s).andThen fun _ => .next .kept

theorem next16_completes (w : Word) (s : State) : Completes s id (next16 w s) :=
  (next8_completes _ s).andThen fun _ => next8_completes ..

theorem readPointer_completes (a : Word) (s : State) : Completes s Prod.snd (readPointer a s) :=
  (memRead_completes a s).andThen fun _ => (memRead_completes ..).andThen fun _ => .next .kept

theorem read16_completes (a : Word) (s : State) : Completes s Prod.snd (read16 a s) :=
  (memRead_completes a s).andThen fun _ => (memRead_completes ..).andThen fun _ => .next .kept

theorem pull8_completes (s : State) : Completes s Prod.snd (pull8 s) :=
  .of_extends .kept (memRead_completes ..)

theorem pull16_completes (s : State) : Completes s Prod.snd (pull16 s) :=
  (pull8_completes s).andThen fun _ => (pull8_completes _).andThen fun _ => .next .kept

theorem memWrite_extends (a : Word) (v : Byte) (s : State) : Extends s (memWrite a v s) :=
  ⟨by simp, _, memWrite_busOps a v s⟩

theorem push8_extends (v : Byte) (s : State) : Extends s (push8 v s) := ⟨by simp, _, push8_busOps v s⟩

theorem push16_extends (w : Word) (s : State) : Extends s (push16 w s) := ⟨by simp, _, push16_busOps w s⟩

theorem enterInterrupt_completes (vector returnTo : Word) (status : Byte) (s : State) :
    Completes s id (enterInterrupt vector returnTo status s) :=
  .of_extends ((push16_extends returnTo s).trans (push8_extends status _)) <|
    .of_extends .kept <| (read16_completes ..).andThen fun _ => .next .kept

theorem returnFromInterrupt_completes (s : State) : Completes s id (returnFromInterrupt s) :=
  (pull8_completes s).andThen fun _ => .of_extends .kept <| (pull16_completes _).andThen fun _ => .next .kept

/-! The resolver and the operand fetch. -/

theorem resolve_completes (m : Operand) (s : State) : Completes s Prod.snd (resolve m s) := by
  cases m with
  | implied | accumulator | immediate _ => exact .next .kept
  | zeroPage d | zeroPageX d | zeroPageY d | relative d => exact (next8_completes d s).andThen fun _ => .next .kept
  | absolute w | absoluteX w | absoluteY w => exact (next16_completes w s).andThen fun _ => .next .kept
  | indirect w =>
    exact (next16_completes w s).andThen fun _ => (readPointer_completes ..).andThen fun _ => .next .kept
  | indirectX d | indirectY d =>
    exact (next8_completes d s).andThen fun _ => (readPointer_completes ..).andThen fun _ => .next .kept

theorem operandRead_completes (m : Operand) (s : State) : Completes s Prod.snd (operandRead m s) := by
  cases m with
  | immediate d => exact (busRead_completes _ d s).andThen fun _ => .next .kept
  | implied | accumulator | zeroPage _ | zeroPageX _ | zeroPageY _ | absolute _ | absoluteX _ | absoluteY _
  | relative _ | indirect _ | indirectX _ | indirectY _ => exact memRead_completes ..

theorem fetchOperand_completes (m : Operand) (s : State) : Completes s Prod.snd (fetchOperand m s) := by
  unfold fetchOperand fetchBy
  split
  · exact .next .kept
  split
  · exact .next .kept
  exact (operandRead_completes m s).andThen fun _ => .next .kept

/-! The executors, by class. -/

/-- An executor completes in every mode. -/
def Executor.Completes (e : Executor) : Prop := ∀ (m : Operand) (s : State), Machine.Completes s Prod.snd (e m s)

theorem direct_completes {f : State → State} (hf : ∀ s, Extends s (f s)) : (direct f).Completes :=
  fun _ s => .next (hf s)

theorem readClass_completes {f : Byte → State → State} (hf : ∀ v s, Extends s (f v s)) : (readClass f).Completes :=
  fun m s => (fetchOperand_completes m s).andThen fun _ => .next (hf ..)

theorem storeClass_completes (v : State → Byte) : (storeClass v).Completes := fun _ _ => .next (memWrite_extends ..)

theorem modifyMemory_completes {f : ByteFn} {after : Byte → State → State} (hafter : ∀ v s, Extends s (after v s)) :
    (modifyMemory f after).Completes := fun m s =>
  (fetchOperand_completes m s).andThen fun _ =>
    .of_extends .kept <| .next ((memWrite_extends ..).trans (hafter ..))

theorem modify_completes (f : ByteFn) : (modify f).Completes := by
  intro m s
  cases m with
  | accumulator => exact .next .kept
  | implied | immediate _ | zeroPage _ | zeroPageX _ | zeroPageY _ | absolute _ | absoluteX _ | absoluteY _
  | relative _ | indirect _ | indirectX _ | indirectY _ => exact modifyMemory_completes (fun _ _ => .kept) _ s

theorem branch_completes (cond : State → Bool) : (branch cond).Completes := by
  intro _ s
  unfold branch
  split
  · exact .next .kept
  · exact .next .kept

theorem executorOf_completes (op : Operation) : (executorOf op).Completes := by
  cases op with dsimp only [executorOf]
  | adc | sbc | and | eor | ora | lda | ldx | ldy | cmp | cpx | cpy | bit | alr | anc | arr | axs | lax | skb | ign =>
    exact readClass_completes fun _ _ => .kept
  | asl | lsr | rol | ror | inc | dec => exact modify_completes _
  | dcp | isc | rla | rra | slo | sre => exact modifyMemory_completes fun _ _ => .kept
  | sta | stx | sty | sax => exact storeClass_completes _
  | inx | iny | dex | dey | txa | tya | tax | tay | tsx | txs | sec | sed | sei | clc | cld | cli | clv | jmp | nop =>
    exact direct_completes fun _ => .kept
  | pha | php => exact direct_completes fun _ => push8_extends ..
  | bcc | bcs | beq | bne | bmi | bpl | bvc | bvs => exact branch_completes _
  | jsr => exact fun _ s => .next ((push16_extends ..).trans .kept)
  | rts => exact fun _ s => (pull16_completes s).andThen fun _ => .next .kept
  | rti => exact fun _ s => (returnFromInterrupt_completes s).andThen fun _ => .next .kept
  | pla | plp => exact fun _ s => (pull8_completes s).andThen fun _ => .next .kept
  | brk => exact fun _ s => (enterInterrupt_completes _ _ _ s).andThen fun _ => .next .kept

theorem runs_completes (u : UnofficialExec) (op : Operation) : (runs u op).Completes := by
  unfold runs
  split
  · exact fun _ _ => .next .kept
  · exact executorOf_completes op

/-- A permitted instruction completes: the latch, the resolver, the executor, the cost (40_cpu_cycle.md R103). -/
theorem exec_completes (i : Instr) {s : State} (hp : Permitted i s) : Completes s id (exec i s) := by
  rw [exec_runs i s hp]
  exact .of_extends .kept <| (resolve_completes ..).andThen fun _ => (runs_completes ..).andThen fun _ => .next .kept

/-- Settles O32: the answer and its bus operations by completion, the latches by the footprint, the two pulses by the
smallest base. -/
theorem completesOnEveryBus : Obligations.CompletesOnEveryBus := by
  intro i s hbus hp
  obtain ⟨t, hexec, hextends⟩ := (exec_completes i hp).answer hbus
  obtain ⟨_, extra, -, -, hcycles⟩ := exec_cycles hexec
  have hbase := two_le_baseCycles i
  obtain ⟨u, n, heffect, -, -, rfl⟩ := exec_next hexec
  exact ⟨_, hexec, heffect.opcode, heffect.instrLatched, by omega, heffect.params, heffect.inputs, heffect.faulted,
    hextends.busOps⟩

end Sys2Proof.Machine
end

section
/-! PROOF. The addressing modes on the flat bus (41_addressing_modes.md R121 to R134). `resolve_flat` gives every mode's
latches, pc, bus reads and crossing; what is left is the arithmetic of the addresses. -/

namespace Sys2Proof.Machine

/-! The addresses and the page crossing as arithmetic on numbers. -/

/-- The zero-page index wraps in page zero (41_addressing_modes.md R125, R126). -/
theorem zext16_add_toNat (d index : Byte) : (zext16 (d + index)).toNat = (d.toNat + index.toNat) % 256 := by
  rw [zext16_toNat, BitVec.toNat_add]

/-- Page zero's next address (41_addressing_modes.md R132, R133). -/
theorem nextInPage_zext16_toNat (d : Byte) : (nextInPage (zext16 d)).toNat = (d.toNat + 1) % 256 := by
  have hd := d.isLt
  rw [nextInPage_toNat, zext16_toNat]
  omega

/-- The 16-bit index wraps from 0xFFFF to 0x0000 (41_addressing_modes.md R128, R129, R133). -/
theorem add_zext16_toNat (base : Word) (index : Byte) :
    (base + zext16 index).toNat = (base.toNat + index.toNat) % 65536 := by
  rw [BitVec.toNat_add, zext16_toNat]

/-- What an indexed mode reports crossed: the carry out of the low byte. -/
theorem pageDiffers_indexed_eq (base : Word) (index : Byte) :
    pageDiffers (base + zext16 index) base = decide (256 ≤ base.toNat % 256 + index.toNat) :=
  Bool.eq_iff_iff.mpr ((pageDiffers_indexed base index).trans decide_eq_true_iff.symm)

/-- The absolute modes have one address and one crossing: Absolute is indexed by 0. -/
theorem absolute_indexed {s : State} {a16 : Word} {m : Operand} {index : Byte}
    (hm : m = .absolute a16 ∧ index = 0 ∨ m = .absoluteX a16 ∧ index = s.x ∨ m = .absoluteY a16 ∧ index = s.y) :
    effectiveAddress m s = a16 + zext16 index ∧ crosses m s = pageDiffers (a16 + zext16 index) a16 := by
  obtain ⟨rfl, rfl⟩ | ⟨rfl, rfl⟩ | ⟨rfl, rfl⟩ := hm
  · have hbase : a16 + zext16 0 = a16 := BitVec.add_zero a16
    rw [hbase]
    exact ⟨rfl, (decide_eq_false (not_not_intro rfl)).symm⟩
  · exact ⟨rfl, rfl⟩
  · exact ⟨rfl, rfl⟩

/-! The statements. -/

/-- Settles O26: the resolver's equations, and the sign extension keeps the displacement. -/
theorem modesWithoutAddress : Obligations.ModesWithoutAddress := by
  intro b s hflat
  refine ⟨rfl, rfl, fun d8 => ?_, fun d8 => ⟨_, resolve_flat hflat b (.relative d8), rfl, sext16_toInt d8⟩⟩
  rw [resolve_flat hflat, resolverReads, List.append_nil]
  rfl

/-- Settles O27: the byte, indexed by 0, X or Y in page zero. -/
theorem zeroPageModes : Obligations.ZeroPageModes := by
  intro b s hflat d8 m index hm
  obtain ⟨rfl, rfl⟩ | ⟨rfl, rfl⟩ | ⟨rfl, rfl⟩ := hm
  · have hbyte : (zext16 d8).toNat = d8.toNat % 256 := (zext16_toNat d8).trans (Nat.mod_eq_of_lt d8.isLt).symm
    exact ⟨_, resolve_flat hflat b (.zeroPage d8), rfl, hbyte⟩
  · exact ⟨_, resolve_flat hflat b (.zeroPageX d8), rfl, zext16_add_toNat d8 s.x⟩
  · exact ⟨_, resolve_flat hflat b (.zeroPageY d8), rfl, zext16_add_toNat d8 s.y⟩

/-- Settles O28: the operand plus 0, X or Y, and the pages compared through the carry out of the low byte. -/
theorem absoluteModes : Obligations.AbsoluteModes := by
  intro b s hflat a16 m index hm
  obtain ⟨haddress, hcrosses⟩ := absolute_indexed hm
  have hresolve := resolve_flat hflat b m
  rw [hcrosses, pageDiffers_indexed_eq] at hresolve
  have hsum := add_zext16_toNat a16 index
  rw [← haddress] at hsum
  refine ⟨_, hresolve, ?_, hsum, ?_⟩
  · obtain ⟨rfl, -⟩ | ⟨rfl, -⟩ | ⟨rfl, -⟩ := hm <;> rfl
  · have hindex := index.isLt
    rw [decide_eq_decide, hsum]
    omega

/-- Settles O29: the pointer's two addresses are `a` and `nextInPage a`, and only IndirectY can cross. -/
theorem indirectModes : Obligations.IndirectModes := by
  intro b s hflat
  refine ⟨fun a16 => ?_, fun d8 => ?_, fun d8 => ?_⟩
  · exact ⟨nextInPage a16, _, resolve_flat hflat b (.indirect a16), nextInPage_toNat a16, rfl, rfl⟩
  · have hfirst := zext16_add_toNat d8 s.x
    have hsecond : (nextInPage (zext16 (d8 + s.x))).toNat = (d8.toNat + s.x.toNat + 1) % 256 := by
      rw [nextInPage_zext16_toNat, BitVec.toNat_add, Nat.mod_add_mod]
    exact ⟨_, _, _, resolve_flat hflat b (.indirectX d8), hfirst, hsecond, rfl, rfl⟩
  · have hcrosses : crosses (.indirectY d8) s = decide (256 ≤ (byteAt s (zext16 d8)).toNat + s.y.toNat) := by
      rw [← pointerAt_low]
      exact pageDiffers_indexed_eq (pointerAt s (zext16 d8)) s.y
    have hresolve := resolve_flat hflat b (.indirectY d8)
    rw [hcrosses] at hresolve
    exact ⟨_, _, _, hresolve, zext16_toNat d8, nextInPage_zext16_toNat d8, rfl,
      add_zext16_toNat (pointerAt s (zext16 d8)) s.y⟩

end Sys2Proof.Machine
end

section
/-! PROOF. The binary ALU (42_alu.md R140 to R145). ADC's byte function meets its rule, overflow by the signed sum; SBC's rule
is ADC's of the complemented operand. Every form runs in one frame, that of the official page-penalty class. -/

namespace Sys2Proof.Machine

/-! The byte functions. -/

theorem hasZN_setZN (v p : Byte) : HasZN v (setZN v p) := by
  constructor
  · rw [flag_setZN, if_neg (by decide), if_pos rfl]
  · rw [flag_setZN, if_pos rfl, getLsbD_seven]

/-- Both inputs of a sum have one sign and the result the other exactly where the signed sum leaves -128..127
(10_state.md R31). -/
theorem signedOverflow_iff {a m r : Byte} {c : Nat} (hc : c ≤ 1) (hr : r.toNat = (a.toNat + m.toNat + c) % 256) :
    (a.getLsbD 7 = m.getLsbD 7 ∧ r.getLsbD 7 ≠ a.getLsbD 7) ↔
      a.toInt + m.toInt + c < -128 ∨ 127 < a.toInt + m.toInt + c := by
  have ha := a.isLt
  have hm := m.isLt
  simp only [BitVec.toInt_eq_toNat_cond, getLsbD_seven, hr, ne_eq, decide_eq_decide]
  split <;> split <;> omega

theorem addWithCarry_carry (a m p : Byte) :
    flag bitC (addWithCarry a m p).2 = decide (255 < a.toNat + m.toNat + (flag bitC p).toNat) := by
  rw [addWithCarry, flag_setZN, if_neg (by decide), if_neg (by decide), flag_setFlag_ne (by decide) (by decide),
    flag_setFlag_same (by decide), sumWithCarry]

theorem addWithCarry_overflow (a m p : Byte) : flag bitV (addWithCarry a m p).2 =
    decide (a.getLsbD 7 = m.getLsbD 7 ∧ (addWithCarry a m p).1.getLsbD 7 ≠ a.getLsbD 7) := by
  rw [addWithCarry, flag_setZN, if_neg (by decide), if_neg (by decide), flag_setFlag_same (by decide),
    BitVec.getLsbD_and, BitVec.getLsbD_xor, BitVec.getLsbD_xor]
  generalize a.getLsbD 7 = x
  generalize m.getLsbD 7 = y
  generalize BitVec.getLsbD _ 7 = z
  revert x y z
  decide

/-- ADC's byte function meets its rule (42_alu.md R141). -/
theorem adcRule_addWithCarry (a m p : Byte) : AdcRule a m p (addWithCarry a m p).1 (addWithCarry a m p).2 := by
  have hsum : (addWithCarry a m p).1.toNat = (a.toNat + m.toNat + (flag bitC p).toNat) % 256 := BitVec.toNat_ofNat ..
  have hsigns := addWithCarry_overflow a m p
  refine ⟨hsum, addWithCarry_carry a m p, hsigns, ?_, hasZN_setZN .., addWithCarry_onlyFlags a m p⟩
  rw [hsigns, decide_eq_decide]
  exact signedOverflow_iff (Bool.toNat_le _) hsum

theorem toInt_not_eq_neg_sub_one (m : Byte) : (~~~m).toInt = -m.toInt - 1 := by
  have hm := m.isLt
  rw [BitVec.toInt_eq_toNat_cond, BitVec.toInt_eq_toNat_cond, BitVec.toNat_not]
  split <;> split <;> omega

/-- SBC's rule is ADC's of the complemented operand: the missing carry is the borrow (42_alu.md R142). -/
theorem sbcRule_of_adcRule {a m p r q : Byte} (h : AdcRule a (m ^^^ 0xFF) p r q) : SbcRule a m p r q := by
  have hnot : m ^^^ 0xFF = ~~~m := BitVec.xor_allOnes
  rw [hnot] at h
  obtain ⟨hr, hcarry, hsigns, hrange, hzn, hframe⟩ := h
  have hm := m.isLt
  have hm' : (~~~m).toNat = 255 - m.toNat := BitVec.toNat_not
  have hborrow : (!flag bitC p).toNat + (flag bitC p).toNat = 1 := by cases flag bitC p <;> rfl
  refine ⟨by omega, ?carry, ?signs, ?range, hzn, hframe⟩
  case carry =>
    rw [hcarry, decide_eq_decide]
    omega
  case signs =>
    have htop : (~~~m).getLsbD 7 = !m.getLsbD 7 := BitVec.getLsbD_not
    rw [hsigns, htop, decide_eq_decide, Bool.eq_not]
  case range =>
    rw [hrange, toInt_not_eq_neg_sub_one, decide_eq_decide]
    omega

/-! The rows of the opcode table. -/

/-- What holds of every row of the opcode table holds of the row of an instruction (30_encoding.md R83). -/
theorem row_of_table {P : Byte → Descriptor → Prop} (h : ∀ b, ∀ d ∈ descriptorOf b, P b d) (i : Instr) :
    P i.opcodeByte i.descriptor := h _ _ (descriptorOf_opcodeByte i)

/-- The official operations of PAGE_PENALTY_CLASS read an operand in every row (40_cpu_cycle.md R107). -/
theorem penaltyClass_rows : ∀ b, ∀ d ∈ descriptorOf b,
    d.operation ∈ [.lda, .ldx, .ldy, .adc, .sbc, .and, .eor, .ora, .cmp] →
      d.operation.unofficial = false ∧ hasNoAddress d.mode = false := by
  decide

/-- The rows of ADC (30_encoding.md R84). -/
theorem adc_rows : ∀ b, ∀ d ∈ descriptorOf b, d.operation = .adc → (b, d.mode, d.baseCycles) ∈
    [(0x61, .indirectX, 6), (0x65, .zeroPage, 3), (0x69, .immediate, 2), (0x6D, .absolute, 4),
     (0x71, .indirectY, 5), (0x75, .zeroPageX, 4), (0x79, .absoluteY, 4), (0x7D, .absoluteX, 4)] := by
  decide

/-- The rows of SBC (30_encoding.md R84). -/
theorem sbc_rows : ∀ b, ∀ d ∈ descriptorOf b, d.operation = .sbc → (b, d.mode, d.baseCycles) ∈
    [(0xE1, .indirectX, 6), (0xE5, .zeroPage, 3), (0xE9, .immediate, 2), (0xED, .absolute, 4),
     (0xF1, .indirectY, 5), (0xF5, .zeroPageX, 4), (0xF9, .absoluteY, 4), (0xFD, .absoluteX, 4)] := by
  decide

/-- The rows of AND, EOR and ORA (30_encoding.md R84). -/
theorem logic_rows : ∀ b, ∀ d ∈ descriptorOf b, d.operation ∈ [.and, .eor, .ora] → (b, d.mode, d.baseCycles) ∈
    [(0x01, .indirectX, 6), (0x05, .zeroPage, 3), (0x09, .immediate, 2), (0x0D, .absolute, 4),
     (0x11, .indirectY, 5), (0x15, .zeroPageX, 4), (0x19, .absoluteY, 4), (0x1D, .absoluteX, 4),
     (0x21, .indirectX, 6), (0x25, .zeroPage, 3), (0x29, .immediate, 2), (0x2D, .absolute, 4),
     (0x31, .indirectY, 5), (0x35, .zeroPageX, 4), (0x39, .absoluteY, 4), (0x3D, .absoluteX, 4),
     (0x41, .indirectX, 6), (0x45, .zeroPage, 3), (0x49, .immediate, 2), (0x4D, .absolute, 4),
     (0x51, .indirectY, 5), (0x55, .zeroPageX, 4), (0x59, .absoluteY, 4), (0x5D, .absoluteX, 4)] := by
  decide

/-! The frame. -/

/-- An official operation of PAGE_PENALTY_CLASS on the flat bus: the operand fetched, its effect, and the base cost, one
more on a page crossing (40_cpu_cycle.md R106, R107). -/
theorem exec_penaltyClass (i : Instr) {s : State} {f : Byte → State → State} (hflat : FlatBus s)
    (hop : i.operation ∈ [.lda, .ldx, .ldy, .adc, .sbc, .and, .eor, .ora, .cmp])
    (hf : executorOf i.operation = readClass f) :
    exec i s = .next { f (operandByte i.operand s) (fetchedState i s) with
      cycles := BitVec.ofNat 8 (i.baseCycles + if crosses i.operand s then 1 else 0) } := by
  obtain ⟨hofficial, hread⟩ := row_of_table penaltyClass_rows i hop
  have hpenalty : pagePenalty s.params.unofficialExec i.operation (crosses i.operand s) =
      if crosses i.operand s then 1 else 0 := by
    rw [pagePenalty, (pagePenaltyClass_iff ..).mpr (.inl hop), Bool.and_true]
  have hpermitted : Permitted i s := fun hu => absurd (hu.symm.trans hofficial) (by decide)
  rw [exec_readClass i hflat hpermitted hread ((runs_of_official hofficial).trans hf), totalCost, hpenalty]
  rfl

/-- Such an operation whose result `g A M` goes to A: Z and N are the result's, and the other bits of P are kept. -/
theorem exec_penaltyClass_accumulator (i : Instr) {s : State} {g : Byte → Byte → Byte} (hflat : FlatBus s)
    (hop : i.operation ∈ [.lda, .ldx, .ldy, .adc, .sbc, .and, .eor, .ora, .cmp])
    (hf : executorOf i.operation = readClass fun v s => { s with a := g s.a v, p := setZN (g s.a v) s.p }) :
    ∃ t, exec i s = .next t ∧
      t = { fetchedState i s with
        a := g s.a (operandByte i.operand s), p := t.p
        cycles := BitVec.ofNat 8 (i.baseCycles + if crosses i.operand s then 1 else 0) } ∧
      HasZN (g s.a (operandByte i.operand s)) t.p ∧ OnlyFlags [bitZ, bitN] s.p t.p ∧ (∀ a, byteAt t a = byteAt s a) :=
  ⟨_, exec_penaltyClass i hflat hop hf, rfl, hasZN_setZN .., setZN_onlyFlags _ s.p, fun _ => rfl⟩

/-! The statements. -/

/-- Settles O33: the frame of the penalty class around the byte function, which meets the rule. -/
theorem adcResult : Obligations.AdcResult := by
  intro i s hflat hop
  have hexec := exec_penaltyClass i hflat (by simp [hop]) (by rw [hop, executorOf, opAdc])
  exact ⟨row_of_table adc_rows i hop, _, hexec, rfl, adcRule_addWithCarry .., fun _ => rfl⟩

/-- Settles O34: as ADC, of the complemented operand. -/
theorem sbcResult : Obligations.SbcResult := by
  intro i s hflat hop
  have hexec := exec_penaltyClass i hflat (by simp [hop]) (by rw [hop, executorOf, opSbc])
  exact ⟨row_of_table sbc_rows i hop, _, hexec, rfl, sbcRule_of_adcRule (adcRule_addWithCarry ..), fun _ => rfl⟩

/-- Settles O35: one frame, with the bitwise and, exclusive or, or. -/
theorem logicResult : Obligations.LogicResult := by
  intro i s r hflat h
  have hrow : i.operation ∈ [.and, .eor, .ora] → _ := row_of_table logic_rows i
  obtain ⟨hop, rfl⟩ | ⟨hop, rfl⟩ | ⟨hop, rfl⟩ := h
  · exact ⟨hrow (by simp [hop]),
      exec_penaltyClass_accumulator i (g := (· &&& ·)) hflat (by simp [hop]) (congrArg executorOf hop)⟩
  · exact ⟨hrow (by simp [hop]),
      exec_penaltyClass_accumulator i (g := (· ^^^ ·)) hflat (by simp [hop]) (congrArg executorOf hop)⟩
  · exact ⟨hrow (by simp [hop]),
      exec_penaltyClass_accumulator i (g := (· ||| ·)) hflat (by simp [hop]) (congrArg executorOf hop)⟩

end Sys2Proof.Machine
end

section
/-! PROOF. Shifts, rotates, increments and decrements (43_shift_incdec.md). Each byte function meets its rule; the template
R150 gives the frame of an accumulator form and of a memory form once, for whichever byte function runs in it. -/

namespace Sys2Proof.Machine

/-! The byte functions. -/

theorem flag_carryZN (r : Byte) (c : Bool) (p : Byte) : flag bitC (setZN r (setFlag bitC c p)) = c := by
  rw [flag_setZN, if_neg (by decide), if_neg (by decide), flag_setFlag_same (by decide)]

theorem getLsbD_zero (v : Byte) : v.getLsbD 0 = decide (v.toNat % 2 = 1) := Nat.testBit_zero v.toNat

theorem shiftLeft_one_toNat (v : Byte) : (v <<< 1).toNat = 2 * v.toNat % 256 := by
  rw [BitVec.toNat_shiftLeft, Nat.shiftLeft_eq, Nat.mul_comm]

theorem shiftRight_one_toNat (v : Byte) : (v >>> 1).toNat = v.toNat / 2 := BitVec.toNat_ushiftRight ..

/-- A left shift leaves bit 0 free for the carry (R153). -/
theorem rotateLeft_toNat (v : Byte) (c : Bool) :
    ((v <<< 1) ||| (if c then 0x01 else 0x00)).toNat = 2 * v.toNat % 256 + c.toNat := by
  have hlow : (if c then 0x01 else 0x00 : Byte).toNat = c.toNat := by cases c <;> rfl
  have heven : 2 * v.toNat % 256 = 2 ^ 1 * (v.toNat % 128) := by omega
  rw [BitVec.toNat_or, shiftLeft_one_toNat, hlow, heven, Nat.two_pow_add_eq_or_of_lt (Bool.toNat_lt c)]

/-- A right shift leaves bit 7 free for the carry (R154). -/
theorem rotateRight_toNat (v : Byte) (c : Bool) :
    ((v >>> 1) ||| (if c then 0x80 else 0x00)).toNat = v.toNat / 2 + 128 * c.toNat := by
  have hhigh : (if c then 0x80 else 0x00 : Byte).toNat = 2 ^ 7 * c.toNat := by cases c <;> rfl
  have hbelow : v.toNat / 2 < 2 ^ 7 := by have := v.isLt; omega
  rw [BitVec.toNat_or, shiftRight_one_toNat, hhigh, Nat.or_comm, ← Nat.two_pow_add_eq_or_of_lt hbelow, Nat.add_comm]

/-- ASL's byte function meets its rule (R151). -/
theorem shiftRule_asl (v p : Byte) : ShiftRule .asl v p (aslByte v p).1 (aslByte v p).2 :=
  ⟨fun _ => ⟨shiftLeft_one_toNat v, (flag_carryZN ..).trans (getLsbD_seven v)⟩, nofun, nofun, nofun,
    hasZN_setZN .., carryZN_onlyFlags _ _ p⟩

/-- LSR's byte function meets its rule (R152). -/
theorem shiftRule_lsr (v p : Byte) : ShiftRule .lsr v p (lsrByte v p).1 (lsrByte v p).2 :=
  ⟨nofun, fun _ => ⟨shiftRight_one_toNat v, (flag_carryZN ..).trans (getLsbD_zero v)⟩, nofun, nofun,
    hasZN_setZN .., carryZN_onlyFlags _ _ p⟩

/-- ROL's byte function meets its rule (R153). -/
theorem shiftRule_rol (v p : Byte) : ShiftRule .rol v p (rolByte v p).1 (rolByte v p).2 :=
  ⟨nofun, nofun, fun _ => ⟨rotateLeft_toNat v _, (flag_carryZN ..).trans (getLsbD_seven v)⟩, nofun,
    hasZN_setZN .., carryZN_onlyFlags _ _ p⟩

/-- ROR's byte function meets its rule (R154). -/
theorem shiftRule_ror (v p : Byte) : ShiftRule .ror v p (rorByte v p).1 (rorByte v p).2 :=
  ⟨nofun, nofun, nofun, fun _ => ⟨rotateRight_toNat v _, (flag_carryZN ..).trans (getLsbD_zero v)⟩,
    hasZN_setZN .., carryZN_onlyFlags _ _ p⟩

/-- Each shift is the template R150 of a byte function that meets its rule. -/
theorem shift_executor {op : Operation} (hop : op ∈ [.asl, .lsr, .rol, .ror]) :
    ∃ f : ByteFn, executorOf op = modify f ∧ ∀ v p, ShiftRule op v p (f v p).1 (f v p).2 := by
  simp only [List.mem_cons, List.not_mem_nil, or_false] at hop
  obtain rfl | rfl | rfl | rfl := hop
  · exact ⟨aslByte, rfl, shiftRule_asl⟩
  · exact ⟨lsrByte, rfl, shiftRule_lsr⟩
  · exact ⟨rolByte, rfl, shiftRule_rol⟩
  · exact ⟨rorByte, rfl, shiftRule_ror⟩

theorem add_one_toNat (v : Byte) : (v + 1).toNat = (v.toNat + 1) % 256 := BitVec.toNat_add ..

theorem sub_one_toNat (v : Byte) : (v - 1).toNat = (v.toNat + 255) % 256 := by
  rw [BitVec.toNat_sub, Nat.add_comm]
  rfl

/-- INC and DEC are the template R150 of a byte function that leaves C and V alone (R155, R156). -/
theorem incDec_executor {op : Operation} {v : Byte} {r : Nat}
    (h : op = .inc ∧ r = (v.toNat + 1) % 256 ∨ op = .dec ∧ r = (v.toNat + 255) % 256) :
    op ∈ [.inc, .dec] ∧ ∃ f : ByteFn, executorOf op = modify f ∧
      ∀ p, (f v p).1.toNat = r ∧ HasZN (f v p).1 (f v p).2 ∧ OnlyFlags [bitZ, bitN] p (f v p).2 := by
  obtain ⟨rfl, rfl⟩ | ⟨rfl, rfl⟩ := h
  · exact ⟨by decide, incByte, rfl, fun p => ⟨add_one_toNat v, hasZN_setZN .., setZN_onlyFlags _ p⟩⟩
  · exact ⟨by decide, decByte, rfl, fun p => ⟨sub_one_toNat v, hasZN_setZN .., setZN_onlyFlags _ p⟩⟩

/-! The rows of the opcode table. -/

/-- The rows of the shifts (30_encoding.md R84). -/
theorem shift_rows : ∀ b, ∀ d ∈ descriptorOf b, d.operation ∈ [.asl, .lsr, .rol, .ror] → (b, d.mode, d.baseCycles) ∈
    [(0x06, .zeroPage, 5), (0x0A, .accumulator, 2), (0x0E, .absolute, 6), (0x16, .zeroPageX, 6),
     (0x1E, .absoluteX, 7), (0x26, .zeroPage, 5), (0x2A, .accumulator, 2), (0x2E, .absolute, 6),
     (0x36, .zeroPageX, 6), (0x3E, .absoluteX, 7), (0x46, .zeroPage, 5), (0x4A, .accumulator, 2),
     (0x4E, .absolute, 6), (0x56, .zeroPageX, 6), (0x5E, .absoluteX, 7), (0x66, .zeroPage, 5),
     (0x6A, .accumulator, 2), (0x6E, .absolute, 6), (0x76, .zeroPageX, 6), (0x7E, .absoluteX, 7)] := by
  decide

/-- The rows of INC and DEC (30_encoding.md R84). -/
theorem incDec_rows : ∀ b, ∀ d ∈ descriptorOf b, d.operation ∈ [.inc, .dec] → (b, d.mode, d.baseCycles) ∈
    [(0xC6, .zeroPage, 5), (0xCE, .absolute, 6), (0xD6, .zeroPageX, 6), (0xDE, .absoluteX, 7),
     (0xE6, .zeroPage, 5), (0xEE, .absolute, 6), (0xF6, .zeroPageX, 6), (0xFE, .absoluteX, 7)] := by
  decide

/-- The rows of INX, INY, DEX and DEY (30_encoding.md R84). -/
theorem indexStep_rows : ∀ b, ∀ d ∈ descriptorOf b, d.operation ∈ [.inx, .iny, .dex, .dey] →
    (b, d.mode, d.baseCycles) ∈ [(0x88, .implied, 2), (0xC8, .implied, 2), (0xCA, .implied, 2), (0xE8, .implied, 2)] := by
  decide

/-- The operations of the template R150 are official and without page penalty. A row of Accumulator mode costs two pulses,
every other row reads an operand (30_encoding.md R84, 40_cpu_cycle.md R107). -/
theorem modify_rows : ∀ b, ∀ d ∈ descriptorOf b, d.operation ∈ [.asl, .lsr, .rol, .ror, .inc, .dec] →
    d.operation.unofficial = false ∧ pagePenalty .full d.operation true = 0 ∧
      if d.mode = .accumulator then d.baseCycles = 2 else hasNoAddress d.mode = false := by
  decide

/-- INX, INY, DEX and DEY are official, without page penalty, and Implied (30_encoding.md R84, 40_cpu_cycle.md R107). -/
theorem indexStep_class : ∀ b, ∀ d ∈ descriptorOf b, d.operation ∈ [.inx, .iny, .dex, .dey] →
    d.operation.unofficial = false ∧ pagePenalty .full d.operation true = 0 ∧ d.mode = .implied := by
  decide

/-! The frames. -/

/-- The template R150 outside Accumulator mode. -/
theorem modify_of_ne_accumulator (f : ByteFn) {m : Operand} (h : m ≠ .accumulator) :
    modify f m = modifyMemory f (fun _ t => t) m := by
  cases m with
  | accumulator => exact absurd rfl h
  | _ => rfl

theorem Operand.eq_accumulator {m : Operand} (h : m.mode = .accumulator) : m = .accumulator := by
  cases m with
  | accumulator => rfl
  | _ => cases h

theorem Operand.eq_implied {m : Operand} (h : m.mode = .implied) : m = .implied := by
  cases m with
  | implied => rfl
  | _ => cases h

/-- In a mode without operand bytes and without latches to write, the resolver leaves what the opcode latch left
(41_addressing_modes.md R121, R122). -/
theorem resolvedState_eq_latchOpcode {i : Instr} (s : State) (h : i.operand = .implied ∨ i.operand = .accumulator) :
    resolvedState i s = latchOpcode i.opcodeByte s := by
  have hmode := mode_operand i
  rw [resolvedState, Instr.length]
  obtain hm | hm := h <;> rw [hmode, hm, resolverReads, List.append_nil] <;> rfl

/-- An official instruction without page penalty on the flat bus, whose executor is done, costs its base cycles
(40_cpu_cycle.md R106, R107). -/
theorem exec_of_done (i : Instr) {s t : State} (hflat : FlatBus s) (hofficial : i.operation.unofficial = false)
    (hplain : pagePenalty .full i.operation true = 0)
    (hdone : executorOf i.operation i.operand (resolvedState i s) = done t) :
    exec i s = .next { t with cycles := BitVec.ofNat 8 i.baseCycles } := by
  have hpermitted : Permitted i s := fun hu => absurd (hu.symm.trans hofficial) (by decide)
  have hpenalty : pagePenalty s.params.unofficialExec i.operation (crosses i.operand s) = 0 :=
    Nat.le_zero.mp ((pagePenalty_le ..).trans_eq hplain)
  rw [exec_flat i hflat hpermitted, runs_of_official hofficial, hdone, done, andThen_next, totalCost, hpenalty]
  rfl

/-- The bytes of the flat RAM after a write. -/
theorem byteAt_write_flat {s : State} (hflat : FlatBus s) (hmem : Memory.wf s.mem = true) (a : Word) (v : Byte) :
    byteAt { s with mem := Memory.write s.mem a.toNat v } a = v ∧
      ∀ b, b ≠ a → byteAt { s with mem := Memory.write s.mem a.toNat v } b = byteAt s b :=
  store_flat hflat a v ▸ byteAt_store_ram v (accessAt_of_flatBus hflat a) hmem

/-- The bus operation of a write carries the byte the flat RAM then holds. -/
theorem memWrite_flat_byteAt {s : State} (hflat : FlatBus s) (hmem : Memory.wf s.mem = true) (a : Word) (v : Byte) :
    memWrite a v s = { s with
      mem := Memory.write s.mem a.toNat v
      busOps := s.busOps ++ [.write a (byteAt { s with mem := Memory.write s.mem a.toNat v } a)] } := by
  rw [(byteAt_write_flat hflat hmem a v).1, memWrite_flat hflat]

/-- The template R150 in Accumulator mode on the flat bus: A and P by the byte function, no bus operation. -/
theorem exec_modify_accumulator (i : Instr) {s : State} {f : ByteFn} (hflat : FlatBus s)
    (hop : i.operation ∈ [.asl, .lsr, .rol, .ror, .inc, .dec]) (hmode : i.mode = .accumulator)
    (hf : executorOf i.operation = modify f) :
    exec i s = .next { latchOpcode i.opcodeByte s with a := (f s.a s.p).1, p := (f s.a s.p).2, cycles := 2 } := by
  have hm : i.operand = .accumulator := Operand.eq_accumulator (mode_operand i ▸ hmode)
  obtain ⟨hofficial, hplain, hrow⟩ := row_of_table modify_rows i hop
  have hbase : i.baseCycles = 2 := (if_pos hmode).mp hrow
  have hdone : executorOf i.operation i.operand (resolvedState i s) =
      done { latchOpcode i.opcodeByte s with a := (f s.a s.p).1, p := (f s.a s.p).2 } := by
    rw [hf, hm, resolvedState_eq_latchOpcode s (.inr hm)]
    rfl
  rw [exec_of_done i hflat hofficial hplain hdone, hbase]
  rfl

/-- The template R150 on memory on the flat bus: the operand read, the byte function's result written back at the same
address, P by the byte function, and nothing else changed. -/
theorem exec_modify_memory (i : Instr) {s : State} {f : ByteFn} (hflat : FlatBus s) (hmem : Memory.wf s.mem = true)
    (hop : i.operation ∈ [.asl, .lsr, .rol, .ror, .inc, .dec]) (hmode : i.mode ≠ .accumulator)
    (hf : executorOf i.operation = modify f) :
    ∃ t, exec i s = .next t ∧
      t = { fetchedState i s with
        mem := t.mem, p := t.p, cycles := BitVec.ofNat 8 i.baseCycles
        busOps := (fetchedState i s).busOps ++ [.write (effectiveAddress i.operand s) (byteAt t (effectiveAddress i.operand s))] } ∧
      (∀ a, a ≠ effectiveAddress i.operand s → byteAt t a = byteAt s a) ∧
      byteAt t (effectiveAddress i.operand s) = (f (operandByte i.operand s) s.p).1 ∧
      t.p = (f (operandByte i.operand s) s.p).2 := by
  have hm : i.operand ≠ .accumulator := fun h => hmode (by rw [mode_operand, h]; rfl)
  obtain ⟨hofficial, hplain, hrow⟩ := row_of_table modify_rows i hop
  have haddress : hasNoAddress i.mode = false := (if_neg hmode).mp hrow
  generalize hresult : f (operandByte i.operand s) s.p = q
  have hdone : executorOf i.operation i.operand (resolvedState i s) =
      done (memWrite (effectiveAddress i.operand s) q.1 { fetchedState i s with p := q.2 }) := by
    rw [hf, modify_of_ne_accumulator f hm, exec_modifyMemory i hflat haddress, hresult]
  have hbus : FlatBus { fetchedState i s with p := q.2 } := hflat
  obtain ⟨hbyte, hframe⟩ := byteAt_write_flat hbus hmem (effectiveAddress i.operand s) q.1
  rw [memWrite_flat_byteAt hbus hmem] at hdone
  exact ⟨_, exec_of_done i hflat hofficial hplain hdone, rfl, hframe, hbyte, rfl⟩

/-- INX, INY, DEX and DEY on the flat bus: the register's effect after the opcode latch, no bus operation. -/
theorem exec_indexStep (i : Instr) {s : State} {f : State → State} (hflat : FlatBus s)
    (hop : i.operation ∈ [.inx, .iny, .dex, .dey]) (hf : executorOf i.operation = direct f) :
    exec i s = .next { f (latchOpcode i.opcodeByte s) with cycles := BitVec.ofNat 8 i.baseCycles } := by
  obtain ⟨hofficial, hplain, hmode⟩ := row_of_table indexStep_class i hop
  have hm : i.operand = .implied := Operand.eq_implied (mode_operand i ▸ hmode)
  have hdone : executorOf i.operation i.operand (resolvedState i s) = done (f (latchOpcode i.opcodeByte s)) := by
    rw [hf, resolvedState_eq_latchOpcode s (.inl hm)]
    rfl
  exact exec_of_done i hflat hofficial hplain hdone

/-! The statements. -/

/-- Settles O36: the accumulator frame around the byte function, which meets its rule. -/
theorem shiftAccumulator : Obligations.ShiftAccumulator := by
  intro i s hflat hop hmode
  obtain ⟨f, hf, hrule⟩ := shift_executor hop
  exact ⟨_, exec_modify_accumulator i hflat (List.mem_append_left _ hop) hmode hf, rfl, hrule s.a s.p,
    fun _ => rfl⟩

/-- Settles O37: the memory frame around the byte function, which meets its rule. -/
theorem shiftMemory : Obligations.ShiftMemory := by
  intro i s hflat hmem hop
  obtain ⟨f, hf, hrule⟩ := shift_executor hop
  have hmodify : i.operation ∈ [.asl, .lsr, .rol, .ror, .inc, .dec] := List.mem_append_left _ hop
  refine ⟨row_of_table shift_rows i hop, fun hmode => ?accumulator, fun hmode => ?memory⟩
  case accumulator => exact ⟨_, exec_modify_accumulator i hflat hmodify hmode hf, hrule s.a s.p⟩
  case memory =>
    obtain ⟨t, hexec, ht, hframe, hbyte, hp⟩ := exec_modify_memory i hflat hmem hmodify hmode hf
    refine ⟨t, hexec, ht, hframe, ?_⟩
    rw [hbyte, hp]
    exact hrule ..

/-- Settles O38: the memory frame around the increment or decrement, which leaves C and V alone. -/
theorem incDecMemory : Obligations.IncDecMemory := by
  intro i s r hflat hmem h
  obtain ⟨hop, f, hf, hrule⟩ := incDec_executor h
  have hmode : i.mode ≠ .accumulator := fun hm =>
    (by decide : ∀ op ∈ [Operation.inc, .dec], op ∉ [.asl, .lsr, .rol, .ror]) _ hop (shift_of_accumulator i hm)
  obtain ⟨t, hexec, ht, hframe, hbyte, hp⟩ :=
    exec_modify_memory i hflat hmem (List.mem_append_right [Operation.asl, .lsr, .rol, .ror] hop) hmode hf
  refine ⟨row_of_table incDec_rows i hop, t, hexec, ht, hframe, ?_⟩
  rw [hbyte, hp]
  exact hrule s.p

/-- Settles O39: one frame, with one step of X or Y. -/
theorem indexStep : Obligations.IndexStep := by
  intro i s hflat hop
  refine ⟨row_of_table indexStep_rows i hop, ?_⟩
  have hexec := fun f => exec_indexStep (f := f) i hflat hop
  simp only [List.mem_cons, List.not_mem_nil, or_false] at hop
  obtain hop | hop | hop | hop := hop <;> rw [hop] at hexec ⊢
  · exact ⟨_, hexec _ rfl, rfl, fun _ => ⟨add_one_toNat s.x, rfl, hasZN_setZN ..⟩, nofun, nofun, nofun,
      setZN_onlyFlags _ s.p, fun _ => rfl⟩
  · exact ⟨_, hexec _ rfl, rfl, nofun, fun _ => ⟨add_one_toNat s.y, rfl, hasZN_setZN ..⟩, nofun, nofun,
      setZN_onlyFlags _ s.p, fun _ => rfl⟩
  · exact ⟨_, hexec _ rfl, rfl, nofun, nofun, fun _ => ⟨sub_one_toNat s.x, rfl, hasZN_setZN ..⟩, nofun,
      setZN_onlyFlags _ s.p, fun _ => rfl⟩
  · exact ⟨_, hexec _ rfl, rfl, nofun, nofun, nofun, fun _ => ⟨sub_one_toNat s.y, rfl, hasZN_setZN ..⟩,
      setZN_onlyFlags _ s.p, fun _ => rfl⟩

end Sys2Proof.Machine
end

section
/-! PROOF. Loads and stores on the flat bus (44_load_store.md). A load runs in the frame of the page-penalty class. A store
runs in one of its own: one write at the effective address after the resolver, and the base cycles. -/

namespace Sys2Proof.Machine

/-! The rows of the opcode table. -/

/-- The rows of LDA, LDX and LDY (30_encoding.md R84). -/
theorem load_rows : ∀ b, ∀ d ∈ descriptorOf b, d.operation ∈ [.lda, .ldx, .ldy] → (b, d.mode, d.baseCycles) ∈
    [(0xA0, .immediate, 2), (0xA1, .indirectX, 6), (0xA2, .immediate, 2), (0xA4, .zeroPage, 3),
     (0xA5, .zeroPage, 3), (0xA6, .zeroPage, 3), (0xA9, .immediate, 2), (0xAC, .absolute, 4),
     (0xAD, .absolute, 4), (0xAE, .absolute, 4), (0xB1, .indirectY, 5), (0xB4, .zeroPageX, 4),
     (0xB5, .zeroPageX, 4), (0xB6, .zeroPageY, 4), (0xB9, .absoluteY, 4), (0xBC, .absoluteX, 4),
     (0xBD, .absoluteX, 4), (0xBE, .absoluteY, 4)] := by
  decide

/-- The rows of STA, STX and STY (30_encoding.md R84). -/
theorem store_rows : ∀ b, ∀ d ∈ descriptorOf b, d.operation ∈ [.sta, .stx, .sty] → (b, d.mode, d.baseCycles) ∈
    [(0x81, .indirectX, 6), (0x84, .zeroPage, 3), (0x85, .zeroPage, 3), (0x86, .zeroPage, 3),
     (0x8C, .absolute, 4), (0x8D, .absolute, 4), (0x8E, .absolute, 4), (0x91, .indirectY, 6),
     (0x94, .zeroPageX, 4), (0x95, .zeroPageX, 4), (0x96, .zeroPageY, 4), (0x99, .absoluteY, 5),
     (0x9D, .absoluteX, 5)] := by
  decide

/-! The executors. -/

/-- LDA, LDX and LDY load their own register with the operand and set Z and N by it. -/
theorem load_executor {op : Operation} (h : op ∈ [.lda, .ldx, .ldy]) :
    executorOf op = readClass fun v s => { s with
      a := if op = .lda then v else s.a
      x := if op = .ldx then v else s.x
      y := if op = .ldy then v else s.y
      p := setZN v s.p } := by
  simp only [List.mem_cons, List.not_mem_nil, or_false] at h
  obtain rfl | rfl | rfl := h <;> rfl

/-- STA, STX and STY are official and without page penalty, and each writes its own register. -/
theorem store_executor {op : Operation} {s : State} {v : Byte}
    (h : op = .sta ∧ v = s.a ∨ op = .stx ∧ v = s.x ∨ op = .sty ∧ v = s.y) :
    op ∈ [.sta, .stx, .sty] ∧ op.unofficial = false ∧ pagePenalty .full op true = 0 ∧
      ∃ register : State → Byte, executorOf op = storeClass register ∧ ∀ i, register (resolvedState i s) = v := by
  obtain ⟨rfl, rfl⟩ | ⟨rfl, rfl⟩ | ⟨rfl, rfl⟩ := h
  · exact ⟨by decide, rfl, rfl, _, rfl, resolvedState_a (s := s)⟩
  · exact ⟨by decide, rfl, rfl, _, rfl, resolvedState_x (s := s)⟩
  · exact ⟨by decide, rfl, rfl, _, rfl, resolvedState_y (s := s)⟩

/-! The frame of a store. -/

theorem permitted_of_official {i : Instr} (h : i.operation.unofficial = false) (s : State) : Permitted i s :=
  fun hu => absurd (hu.symm.trans h) (by decide)

/-- An operation outside PAGE_PENALTY_CLASS costs its base cycles, whatever is crossed (40_cpu_cycle.md R106, R107). -/
theorem totalCost_of_plain {i : Instr} (s : State) (hplain : pagePenalty .full i.operation true = 0) :
    totalCost i s 0 = BitVec.ofNat 8 i.baseCycles := by
  have hpenalty : pagePenalty s.params.unofficialExec i.operation (crosses i.operand s) = 0 :=
    Nat.le_zero.mp ((pagePenalty_le ..).trans_eq hplain)
  rw [totalCost, hpenalty]
  rfl

/-- A store-class instruction without page penalty on the flat bus: one write at the effective address and nothing else
beside the resolver's latches (41_addressing_modes.md R135, 40_cpu_cycle.md R107). -/
theorem exec_storeClass_plain (i : Instr) {s : State} {v : State → Byte} (hflat : FlatBus s) (hmem : Memory.wf s.mem = true)
    (hpermitted : Permitted i s) (hplain : pagePenalty .full i.operation true = 0)
    (hf : runs s.params.unofficialExec i.operation = storeClass v) :
    ∃ t, exec i s = .next t ∧
      t = { resolvedState i s with
        mem := t.mem, cycles := BitVec.ofNat 8 i.baseCycles
        busOps := (resolvedState i s).busOps ++ [.write (effectiveAddress i.operand s) (v (resolvedState i s))] } ∧
      byteAt t (effectiveAddress i.operand s) = v (resolvedState i s) ∧
      ∀ a, a ≠ effectiveAddress i.operand s → byteAt t a = byteAt s a := by
  have hexec := exec_storeClass i hflat hpermitted hf
  rw [memWrite_flat (s := resolvedState i s) hflat, totalCost_of_plain s hplain] at hexec
  exact ⟨_, hexec, rfl, byteAt_write_flat hflat hmem (effectiveAddress i.operand s) (v (resolvedState i s))⟩

/-! The statements. -/

/-- Settles O40: the frame of the penalty class, with A, X or Y loaded. -/
theorem loadResult : Obligations.LoadResult := by
  intro i s hflat hop
  have hexec := exec_penaltyClass i hflat (List.mem_append_left _ hop) (load_executor hop)
  exact ⟨row_of_table load_rows i hop, _, hexec, rfl, hasZN_setZN .., setZN_onlyFlags _ s.p, fun _ => rfl⟩

/-- Settles O41: the frame of a store around the register's byte. -/
theorem storeResult : Obligations.StoreResult := by
  intro i s v hflat hmem h
  obtain ⟨hop, hofficial, hplain, register, hf, hv⟩ := store_executor h
  have hexec := exec_storeClass_plain i hflat hmem (permitted_of_official hofficial s) hplain
    ((runs_of_official hofficial).trans hf)
  rw [hv i] at hexec
  exact ⟨row_of_table store_rows i hop, hexec⟩

end Sys2Proof.Machine
end

section
/-! PROOF. Flag instructions and compares on the flat bus (45_flags_compare.md). A flag instruction writes its one bit of P
in the frame of an Implied instruction. Every compare runs in the frame CMP has by the page-penalty class: the forms of CPX
and CPY cannot cross a page. -/

namespace Sys2Proof.Machine

/-! The flag functions. -/

/-- The compares' flag function meets their rule (45_flags_compare.md R182): Z and N are those of the difference. -/
theorem compareRule_compareFlags (r m p : Byte) : CompareRule r m p (compareFlags r m p) := by
  obtain ⟨hzero, hnegative⟩ := hasZN_setZN (r - m) (setFlag bitC (decide (m.toNat ≤ r.toNat)) p)
  have hequal : r - m = 0 ↔ r = m := sub_eq_zero
  have hdifference : (r - m).toNat = (r.toNat + 256 - m.toNat) % 256 := by
    have hm := m.isLt
    rw [BitVec.toNat_sub]
    omega
  refine ⟨flag_carryZN .., ?zero, ?negative, carryZN_onlyFlags _ _ p⟩
  case zero => rwa [decide_eq_decide.mpr hequal] at hzero
  case negative => rwa [hdifference] at hnegative

/-! The rows of the opcode table. -/

/-- The rows of SEC, SED, SEI, CLC, CLD, CLI and CLV (30_encoding.md R84). -/
theorem flag_rows : ∀ b, ∀ d ∈ descriptorOf b, d.operation ∈ [.sec, .sed, .sei, .clc, .cld, .cli, .clv] →
    (b, d.mode, d.baseCycles) ∈
      [(0x18, .implied, 2), (0x38, .implied, 2), (0x58, .implied, 2), (0x78, .implied, 2), (0xB8, .implied, 2),
       (0xD8, .implied, 2), (0xF8, .implied, 2)] := by
  decide

/-- The flag instructions are official, without page penalty, and Implied (30_encoding.md R84, 40_cpu_cycle.md R107). -/
theorem flag_class : ∀ b, ∀ d ∈ descriptorOf b, d.operation ∈ [.sec, .sed, .sei, .clc, .cld, .cli, .clv] →
    d.operation.unofficial = false ∧ pagePenalty .full d.operation true = 0 ∧ d.mode = .implied := by
  decide

/-- The rows of CMP, CPX and CPY (30_encoding.md R84). -/
theorem compare_rows : ∀ b, ∀ d ∈ descriptorOf b, d.operation ∈ [.cmp, .cpx, .cpy] → (b, d.mode, d.baseCycles) ∈
    [(0xC0, .immediate, 2), (0xC1, .indirectX, 6), (0xC4, .zeroPage, 3), (0xC5, .zeroPage, 3),
     (0xC9, .immediate, 2), (0xCC, .absolute, 4), (0xCD, .absolute, 4), (0xD1, .indirectY, 5),
     (0xD5, .zeroPageX, 4), (0xD9, .absoluteY, 4), (0xDD, .absoluteX, 4), (0xE0, .immediate, 2),
     (0xE4, .zeroPage, 3), (0xEC, .absolute, 4)] := by
  decide

/-- CPX and CPY are official and without page penalty, and their rows read an operand in a mode that crosses no page
(30_encoding.md R84, 40_cpu_cycle.md R107). -/
theorem indexCompare_class : ∀ b, ∀ d ∈ descriptorOf b, d.operation ∈ [.cpx, .cpy] →
    d.operation.unofficial = false ∧ pagePenalty .full d.operation true = 0 ∧ hasNoAddress d.mode = false ∧
      d.mode ∉ [.absoluteX, .absoluteY, .indirectY] := by
  decide

/-! The executors. -/

/-- A flag instruction writes one bit of P. -/
theorem flag_executor {op : Operation} {k : Nat} {v : Bool}
    (h : (op, k, v) ∈ [(.sec, 0, true), (.sed, 3, true), (.sei, 2, true),
      (.clc, 0, false), (.cld, 3, false), (.cli, 2, false), (.clv, 6, false)]) :
    op ∈ [.sec, .sed, .sei, .clc, .cld, .cli, .clv] ∧ k < 8 ∧
      executorOf op = direct fun s => { s with p := setFlag k v s.p } := by
  simp only [List.mem_cons, Prod.mk.injEq, List.not_mem_nil, or_false] at h
  obtain ⟨rfl, rfl, rfl⟩ | ⟨rfl, rfl, rfl⟩ | ⟨rfl, rfl, rfl⟩ | ⟨rfl, rfl, rfl⟩ | ⟨rfl, rfl, rfl⟩ | ⟨rfl, rfl, rfl⟩ |
    ⟨rfl, rfl, rfl⟩ := h <;> exact ⟨by decide, by decide, rfl⟩

/-- CMP, CPX and CPY compare their own register with the operand. -/
theorem compare_executor {op : Operation} {s : State} {r : Byte}
    (h : op = .cmp ∧ r = s.a ∨ op = .cpx ∧ r = s.x ∨ op = .cpy ∧ r = s.y) :
    op ∈ [.cmp, .cpx, .cpy] ∧ ∃ register : State → Byte,
      (executorOf op = readClass fun v s => { s with p := compareFlags (register s) v s.p }) ∧
      ∀ i, register (fetchedState i s) = r := by
  obtain ⟨rfl, rfl⟩ | ⟨rfl, rfl⟩ | ⟨rfl, rfl⟩ := h
  · exact ⟨by decide, _, rfl, fetchedState_a (s := s)⟩
  · exact ⟨by decide, _, rfl, fetchedState_x (s := s)⟩
  · exact ⟨by decide, _, rfl, fetchedState_y (s := s)⟩

/-! The frames. -/

/-- An official Implied instruction without page penalty on the flat bus: its effect after the opcode latch, the base
cycles, no bus operation (41_addressing_modes.md R121, 40_cpu_cycle.md R106). -/
theorem exec_direct_implied (i : Instr) {s : State} {f : State → State} (hflat : FlatBus s)
    (hofficial : i.operation.unofficial = false) (hplain : pagePenalty .full i.operation true = 0)
    (hmode : i.mode = .implied) (hf : executorOf i.operation = direct f) :
    exec i s = .next { f (latchOpcode i.opcodeByte s) with cycles := BitVec.ofNat 8 i.baseCycles } := by
  have hoperand : i.operand = .implied := Operand.eq_implied (mode_operand i ▸ hmode)
  rw [exec_direct i hflat (permitted_of_official hofficial s) ((runs_of_official hofficial).trans hf),
    totalCost_of_plain s hplain, resolvedState_eq_latchOpcode s (.inl hoperand)]

theorem crosses_of_not_indexed {m : Operand} (s : State) (h : m.mode ∉ [.absoluteX, .absoluteY, .indirectY]) :
    crosses m s = false := by
  cases m with
  | absoluteX _ | absoluteY _ | indirectY _ => exact absurd (by simp [Operand.mode]) h
  | _ => rfl

/-- A compare on the flat bus: the operand fetched, the effect on P, and the base cost, one more on a page crossing, which
only a form of CMP can make (40_cpu_cycle.md R106, R107). -/
theorem exec_compare (i : Instr) {s : State} {f : Byte → State → State} (hflat : FlatBus s)
    (hop : i.operation ∈ [.cmp, .cpx, .cpy]) (hf : executorOf i.operation = readClass f) :
    exec i s = .next { f (operandByte i.operand s) (fetchedState i s) with
      cycles := BitVec.ofNat 8 (i.baseCycles + if crosses i.operand s then 1 else 0) } := by
  obtain hcmp | hindex := List.mem_cons.mp hop
  · exact exec_penaltyClass i hflat (by simp [hcmp]) hf
  · obtain ⟨hofficial, hplain, hread, hmode⟩ := row_of_table indexCompare_class i hindex
    have hcrosses : crosses i.operand s = false := crosses_of_not_indexed s (mode_operand i ▸ hmode)
    rw [exec_readClass i hflat (permitted_of_official hofficial s) hread ((runs_of_official hofficial).trans hf),
      totalCost_of_plain s hplain, hcrosses]
    rfl

/-! The statements. -/

/-- Settles O42: the frame of an Implied instruction around the write of one bit. -/
theorem flagInstructions : Obligations.FlagInstructions := by
  intro i s k v hflat h
  obtain ⟨hop, hk, hf⟩ := flag_executor h
  obtain ⟨hofficial, hplain, hmode⟩ := row_of_table flag_class i hop
  exact ⟨row_of_table flag_rows i hop, _, exec_direct_implied i hflat hofficial hplain hmode hf, rfl,
    flag_setFlag_same hk, onlyFlags_setFlag (List.mem_singleton_self k) (onlyFlags_refl _ s.p) v hk, fun _ => rfl⟩

/-- Settles O43: one frame around the compare of the instruction's register, whose flags meet the rule. -/
theorem compareResult : Obligations.CompareResult := by
  intro i s r hflat h
  obtain ⟨hop, register, hf, hr⟩ := compare_executor h
  have hexec := exec_compare i hflat hop hf
  rw [hr i] at hexec
  exact ⟨row_of_table compare_rows i hop, _, hexec, rfl, compareRule_compareFlags r _ s.p, fun _ => rfl⟩

end Sys2Proof.Machine
end

section
/-! PROOF. Control transfer and branches on the flat bus (46_control_transfer.md). JMP, JSR, RTS and RTI run in the frame of an
official instruction at its base cost; where a pushed word's two bytes lie is said once, and RTS after JSR joins the two
statements. The eight branches are one executor, for a flag and the value it is tested for, in one frame. -/

namespace Sys2Proof.Machine

/-! The bytes on the stack. -/

theorem byteAt_push8 {s : State} (hflat : FlatBus s) (hmem : Memory.wf s.mem = true) (v : Byte) :
    byteAt (push8 v s) (stackAddress s.sp) = v ∧
      ∀ a, a ≠ stackAddress s.sp → byteAt (push8 v s) a = byteAt s a := by
  rw [push8_flat hflat]
  exact byteAt_write_flat hflat hmem (stackAddress s.sp) v

/-- A pushed word lies in two different bytes of the stack page, wherever SP wraps (20_memory.md R57, R65). -/
theorem byteAt_push16 {s : State} (hflat : FlatBus s) (hmem : Memory.wf s.mem = true) (w : Word) :
    byteAt (push16 w s) (stackAddress s.sp) = hiByte w ∧ byteAt (push16 w s) (stackAddress (s.sp - 1)) = loByte w ∧
      ∀ a, a ≠ stackAddress s.sp → a ≠ stackAddress (s.sp - 1) → byteAt (push16 w s) a = byteAt s a := by
  obtain ⟨hhi, hkeep⟩ := byteAt_push8 hflat hmem (hiByte w)
  have hflat' : FlatBus (push8 (hiByte w) s) := (congrArg Params.bus (push8_params ..)).trans hflat
  obtain ⟨hlo, hkeep'⟩ := byteAt_push8 hflat' (push8_wf hmem) (loByte w)
  rw [push8_sp] at hlo hkeep'
  have hne : stackAddress s.sp ≠ stackAddress (s.sp - 1) := stackAddress_ne (by bv_omega)
  exact ⟨(hkeep' _ hne).trans hhi, hlo, fun a h h' => (hkeep' a h').trans (hkeep a h)⟩

/-- Beside the bytes, a pushed word changes SP and the bus operations. -/
theorem push16_eq {s : State} (hflat : FlatBus s) (w : Word) :
    push16 w s = { s with
      sp := s.sp - 2, mem := (push16 w s).mem
      busOps := s.busOps ++ [.write (stackAddress s.sp) (hiByte w), .write (stackAddress (s.sp - 1)) (loByte w)] } := by
  rw [push16_flat hflat]

/-! JSR, RTS and RTI. -/

/-- JSR pushes the address of its last byte and goes where the resolver points (46_control_transfer.md R191). -/
theorem opJsr_eq (m : Operand) (s : State) :
    opJsr m s = done { push16 (s.pc - 1) s with pc := s.addressAbsolute } := by
  rw [← push16_addressAbsolute (s.pc - 1) s]
  rfl

/-- RTS's executor on the flat bus (46_control_transfer.md R193). -/
theorem opRts_flat {s : State} (hflat : FlatBus s) (m : Operand) :
    opRts m s = done { s with
      pc := wordOf (byteAt s (stackAddress (s.sp + 2))) (byteAt s (stackAddress (s.sp + 1))) + 1, sp := s.sp + 2
      busOps := s.busOps ++ [readOf s (stackAddress (s.sp + 1)), readOf s (stackAddress (s.sp + 2))] } := by
  rw [opRts, pull16_flat hflat]
  rfl

/-- RTI's executor on the flat bus (46_control_transfer.md R192). -/
theorem opRti_flat {s : State} (hflat : FlatBus s) (m : Operand) :
    opRti m s = done { s with
      p := pulledStatus (byteAt s (stackAddress (s.sp + 1)))
      pc := wordOf (byteAt s (stackAddress (s.sp + 3))) (byteAt s (stackAddress (s.sp + 2))), sp := s.sp + 3
      busOps := s.busOps ++ [readOf s (stackAddress (s.sp + 1)), readOf s (stackAddress (s.sp + 2)),
        readOf s (stackAddress (s.sp + 3))] } := by
  rw [opRti, returnFromInterrupt_flat hflat]
  rfl

/-- An official Implied instruction without page penalty on the flat bus: its executor after the opcode latch, and the base
cycles (41_addressing_modes.md R121, 40_cpu_cycle.md R106). -/
theorem exec_implied_of_done (i : Instr) {s t : State} (hflat : FlatBus s) (hofficial : i.operation.unofficial = false)
    (hplain : pagePenalty .full i.operation true = 0) (hm : i.operand = .implied)
    (hdone : executorOf i.operation .implied (latchOpcode i.opcodeByte s) = done t) :
    exec i s = .next { t with cycles := BitVec.ofNat 8 i.baseCycles } := by
  refine exec_of_done i hflat hofficial hplain ?_
  rw [resolvedState_eq_latchOpcode s (.inl hm), hm, hdone]

/-! The branches: their rows, their condition, their frame. -/

/-- The rows of the branches (30_encoding.md R84). -/
theorem branch_rows : ∀ b, ∀ d ∈ descriptorOf b, d.operation ∈ [.bcc, .bcs, .beq, .bne, .bmi, .bpl, .bvc, .bvs] →
    (b, d.mode, d.baseCycles) ∈
      [(0x10, .relative, 2), (0x30, .relative, 2), (0x50, .relative, 2), (0x70, .relative, 2),
       (0x90, .relative, 2), (0xB0, .relative, 2), (0xD0, .relative, 2), (0xF0, .relative, 2)] := by
  decide

/-- The branches are official and without page penalty, and their base cost is 2 (30_encoding.md R84, 40_cpu_cycle.md R107). -/
theorem branch_class : ∀ b, ∀ d ∈ descriptorOf b, d.operation ∈ [.bcc, .bcs, .beq, .bne, .bmi, .bpl, .bvc, .bvs] →
    d.operation.unofficial = false ∧ pagePenalty .full d.operation true = 0 ∧ d.baseCycles = 2 := by
  decide

/-- Each branch tests its own flag for its own value (46_control_transfer.md R195 to R202), on a displacement in range. -/
theorem branch_executor {i : Instr} {offset : Int} {k : Nat} {v : Bool} (hwf : i.wellFormed = true)
    (h : (i, k, v) ∈ [(.bcc offset, 0, false), (.bcs offset, 0, true), (.beq offset, 1, true), (.bne offset, 1, false),
      (.bmi offset, 7, true), (.bpl offset, 7, false), (.bvc offset, 6, false), (.bvs offset, 6, true)]) :
    i.operation ∈ [.bcc, .bcs, .beq, .bne, .bmi, .bpl, .bvc, .bvs] ∧ i.operand = .relative (displacementByte offset) ∧
      displacementInRange offset = true ∧
      executorOf i.operation = branch fun s => flag k s.p == v := by
  simp only [List.mem_cons, Prod.mk.injEq, List.not_mem_nil, or_false] at h
  obtain ⟨rfl, rfl, rfl⟩ | ⟨rfl, rfl, rfl⟩ | ⟨rfl, rfl, rfl⟩ | ⟨rfl, rfl, rfl⟩ | ⟨rfl, rfl, rfl⟩ | ⟨rfl, rfl, rfl⟩ |
    ⟨rfl, rfl, rfl⟩ | ⟨rfl, rfl, rfl⟩ := h <;>
  exact ⟨by simp [Instr.operation, Instr.row], rfl, hwf,
    congrArg branch (funext fun _ => by simp only [beq_true, beq_false, bitC, bitZ, bitV, bitN])⟩

/-- The sign extension keeps a displacement in range (41_addressing_modes.md R130). -/
theorem sext16_displacementByte {offset : Int} (h : displacementInRange offset = true) :
    sext16 (displacementByte offset) = BitVec.ofInt 16 offset :=
  congrArg (BitVec.ofInt 16) (displacementOf_byte h)

/-- A branch's executor starts with pc after the branch and the displacement latched, one operand byte read
(41_addressing_modes.md R130). -/
theorem resolvedState_relative {i : Instr} {offset : Int} (s : State) (hm : i.operand = .relative (displacementByte offset))
    (h : displacementInRange offset = true) :
    resolvedState i s = { s with
      opcode := i.opcodeByte, fetchValid := false, instrLatched := true, pc := s.pc + 2
      addressRelative := BitVec.ofInt 16 offset
      busOps := s.busOps ++ [.read (s.pc + 1) (BitVec.ofInt 8 offset)] } := by
  rw [resolvedState, Instr.length, mode_operand, hm, relativeLatch, sext16_displacementByte h]
  rfl

theorem branch_not_taken {cond : State → Bool} {s : State} (m : Operand) (h : cond s = false) : branch cond m s = done s := by
  rw [branch, h]
  rfl

theorem branch_taken {cond : State → Bool} {s : State} (m : Operand) (h : cond s = true) :
    branch cond m s = .next (if pageDiffers (s.pc + s.addressRelative) s.pc then 2 else 1,
      { s with pc := s.pc + s.addressRelative }) := by
  rw [branch, h]
  rfl

/-- A branch costs its base cycles and what its executor adds (40_cpu_cycle.md R106, 46_control_transfer.md R194). -/
theorem exec_branch (i : Instr) {s t : State} {n : Nat} (hflat : FlatBus s)
    (hop : i.operation ∈ [.bcc, .bcs, .beq, .bne, .bmi, .bpl, .bvc, .bvs])
    (hnext : executorOf i.operation i.operand (resolvedState i s) = .next (n, t)) :
    exec i s = .next { t with cycles := BitVec.ofNat 8 (2 + n) } := by
  obtain ⟨hofficial, hplain, hbase⟩ : i.operation.unofficial = false ∧ pagePenalty .full i.operation true = 0 ∧
    i.baseCycles = 2 := row_of_table branch_class i hop
  have hpenalty : pagePenalty s.params.unofficialExec i.operation (crosses i.operand s) = 0 :=
    Nat.le_zero.mp ((pagePenalty_le ..).trans_eq hplain)
  rw [exec_flat i hflat (permitted_of_official hofficial s), runs_of_official hofficial, hnext, andThen_next, totalCost,
    hpenalty, hbase]

/-- The target of a taken branch, as the spec adds it (46_control_transfer.md R194). -/
theorem add_ofInt_toNat (pc : Word) (offset : Int) :
    ((pc + BitVec.ofInt 16 offset).toNat : Int) = (pc.toNat + offset) % 65536 := by
  rw [BitVec.toNat_add, BitVec.toNat_ofInt]
  omega

theorem pageDiffers_eq (a b : Word) : pageDiffers a b = decide (a.toNat / 256 ≠ b.toNat / 256) := by
  rw [pageDiffers, decide_eq_decide, ne_eq, ← BitVec.toNat_inj, hiByte_toNat, hiByte_toNat]

/-- The base cost, one for the jump, one more for another page. -/
theorem branch_cost (target next : Word) : BitVec.ofNat 8 (2 + if pageDiffers target next then 2 else 1) =
    if target.toNat / 256 = next.toNat / 256 then 3 else 4 := by
  rw [pageDiffers_eq]
  by_cases h : target.toNat / 256 = next.toNat / 256 <;> simp [h]

/-! The statements. -/

/-- Settles O44: the executor takes the address the resolver left, the pointer's second byte from its own page. -/
theorem jmpResult : Obligations.JmpResult := by
  intro s a16 hflat
  constructor
  · exact ⟨_, exec_of_done (.jmpAbs a16) hflat rfl rfl rfl, rfl, fun _ => rfl⟩
  · exact ⟨nextInPage a16, _, _, exec_of_done (.jmpInd a16) hflat rfl rfl rfl, nextInPage_toNat a16, rfl, rfl, fun _ => rfl⟩

/-- Settles O45: the push of the word after the resolver, whose pc is one past the instruction's last byte. -/
theorem jsrResult : Obligations.JsrResult := by
  intro s a16 hflat hmem
  have hreturn : s.pc + 3 - 1 = s.pc + 2 := by bv_omega
  have hdone : executorOf .jsr (.absolute a16) (resolvedState (.jsrAbs a16) s) =
      done { push16 (s.pc + 2) (resolvedState (.jsrAbs a16) s) with pc := a16 } :=
    hreturn ▸ opJsr_eq (.absolute a16) _
  refine ⟨_, exec_of_done (.jsrAbs a16) hflat rfl rfl hdone, ?_,
    byteAt_push16 (s := resolvedState (.jsrAbs a16) s) hflat hmem (s.pc + 2)⟩
  rw [push16_eq (s := resolvedState (.jsrAbs a16) s) hflat, resolvedState_busOps, List.append_assoc]
  rfl

/-- RTS on the flat bus: one past the word pulled (46_control_transfer.md R193). -/
theorem exec_rts {s : State} (hflat : FlatBus s) :
    exec .rts s = .next { latchOpcode 0x60 s with
      pc := wordOf (byteAt s (stackAddress (s.sp + 2))) (byteAt s (stackAddress (s.sp + 1))) + 1
      sp := s.sp + 2, cycles := 6
      busOps := s.busOps ++ [readOf s (stackAddress (s.sp + 1)), readOf s (stackAddress (s.sp + 2))] } :=
  exec_implied_of_done .rts hflat rfl rfl rfl (opRts_flat (s := latchOpcode 0x60 s) hflat .implied)

/-- Settles O46: the word pulled after a JSR is the word the JSR pushed, the address of its last byte. -/
theorem rtsResult : Obligations.RtsResult := by
  refine ⟨fun s hflat => ⟨_, exec_rts hflat, rfl, fun _ => rfl⟩, fun s t a16 hflat hmem hexec => ?_⟩
  obtain ⟨t', hexec', ht, hhi, hlo, -⟩ := jsrResult s a16 hflat hmem
  obtain rfl : t' = t := Host.Outcome.next.inj (hexec'.symm.trans hexec)
  have hbus : FlatBus t' := (congrArg (·.params.bus) ht).trans hflat
  have hsp : t'.sp = s.sp - 2 := congrArg State.sp ht
  have hfirst : t'.sp + 1 = s.sp - 1 := by rw [hsp]; bv_omega
  have hsecond : t'.sp + 2 = s.sp := by rw [hsp]; bv_omega
  refine ⟨_, exec_rts hbus, ?_, hsecond⟩
  dsimp only
  rw [hfirst, hsecond, hhi, hlo, wordOf_hiByte_loByte]
  bv_omega

/-- Settles O47: the byte pulled first gives P, bits 4 and 5 apart. -/
theorem rtiResult : Obligations.RtiResult := by
  intro s hflat
  have hexec := exec_implied_of_done .rti hflat rfl rfl rfl (opRti_flat (s := latchOpcode 0x40 s) hflat .implied)
  refine ⟨_, hexec, rfl, fun k hk => ?_, flag_pulledStatus, flag_pulledStatus, fun _ => rfl⟩
  have h4 : k ≠ bitB := fun h => hk (by simp [h, bitB])
  have h5 : k ≠ bitU := fun h => hk (by simp [h, bitU])
  exact flag_pulledStatus.trans ((if_neg h5).trans (if_neg h4))

/-- Settles O48: one frame, taken or not by the branch's own flag. -/
theorem branchResult : Obligations.BranchResult := by
  intro i s offset k v hflat hwf h
  obtain ⟨hop, hm, hrange, hf⟩ := branch_executor hwf h
  have hstart := resolvedState_relative s hm hrange
  refine ⟨row_of_table branch_rows i hop, ?_⟩
  by_cases hv : flag k s.p = v
  case pos =>
    have hexec := exec_branch i hflat hop ((congrFun₂ hf ..).trans (branch_taken _ (beq_iff_eq.mpr hv)))
    rw [hstart, branch_cost] at hexec
    exact ⟨_, hexec, rfl, fun hne => absurd hv hne, fun _ => ⟨add_ofInt_toNat .., rfl⟩, fun _ => rfl⟩
  case neg =>
    have hexec := exec_branch i hflat hop ((congrFun₂ hf ..).trans (branch_not_taken _ (beq_eq_false_iff_ne.mpr hv)))
    rw [hstart] at hexec
    exact ⟨_, hexec, rfl, fun _ => ⟨rfl, rfl⟩, fun heq => absurd heq hv, fun _ => rfl⟩

end Sys2Proof.Machine
end

section
/-! PROOF. Stack operations and register transfers on the flat bus (47_stack_transfer.md). A push has one frame, whatever byte it
moves; PLA and PLP are the one pull and their own effect; PHP then PLP joins the two. The six transfers have one frame, in
which only TXS leaves the flags alone. -/

namespace Sys2Proof.Machine

/-! The status byte on the stack. -/

/-- Bits 4 and 5 apart, PLP takes the pulled byte (47_stack_transfer.md R214). -/
theorem pulledStatus_onlyFlags (m : Byte) : OnlyFlags [bitB, bitU] m (pulledStatus m) := by
  intro k hk
  simp only [List.mem_cons, List.not_mem_nil, or_false, not_or] at hk
  obtain ⟨hb, hu⟩ := hk
  rw [flag_pulledStatus, if_neg hu, if_neg hb]

/-- What PHP sets in the pushed byte, PLP does not take from it (10_state.md R24). -/
theorem pulledStatus_pushedBySoftware (p : Byte) : pulledStatus (pushedBySoftware p) = pulledStatus p := by
  have hbits : (0x30 &&& 0xCF : Byte) = 0#8 := rfl
  rw [pulledStatus, pushedBySoftware, BitVec.and_or_distrib_right, hbits, BitVec.or_zero, pulledStatus]

/-- PLP changes no status byte of the form R24, and every other one. -/
theorem pulledStatus_eq_self_iff {p : Byte} : pulledStatus p = p ↔ StatusForm p := by
  constructor
  · intro h
    rw [← h]
    exact ⟨flag_pulledStatus, flag_pulledStatus⟩
  · rintro ⟨hu, hb⟩
    refine BitVec.eq_of_getLsbD_eq fun k _ => flag_pulledStatus.trans ?_
    split
    next hk => exact hk ▸ hu.symm
    next =>
      split
      next hk => exact hk ▸ hb.symm
      next => rfl

/-! Push and pull. -/

/-- Beside the byte, a push changes SP and the bus operations. -/
theorem push8_eq {s : State} (hflat : FlatBus s) (v : Byte) :
    push8 v s = { s with
      sp := s.sp - 1, mem := (push8 v s).mem, busOps := s.busOps ++ [.write (stackAddress s.sp) v] } := by
  rw [push8_flat hflat]

/-- The pull after a push answers the pushed byte and restores SP (47_stack_transfer.md R210). -/
theorem pull8_push8 {s : State} (hflat : FlatBus s) (hmem : Memory.wf s.mem = true) (v : Byte) :
    ∃ t, pull8 (push8 v s) = .next (v, t) ∧ t.sp = s.sp := by
  have hbus : FlatBus (push8 v s) := (congrArg Params.bus (push8_params ..)).trans hflat
  have hsp : (push8 v s).sp + 1 = s.sp := (congrArg (· + 1) (push8_sp ..)).trans (BitVec.sub_add_cancel ..)
  obtain ⟨hbyte, -⟩ := byteAt_push8 hflat hmem v
  have hpull : pull8 (push8 v s) = .next (byteAt (push8 v s) (stackAddress ((push8 v s).sp + 1)), _) := pull8_flat hbus
  rw [hsp, hbyte] at hpull
  exact ⟨_, hpull, rfl⟩

/-- An official Implied instruction without page penalty that pushes one byte on the flat bus. -/
theorem exec_push (i : Instr) {s : State} {v : Byte} (hflat : FlatBus s) (hmem : Memory.wf s.mem = true)
    (hofficial : i.operation.unofficial = false) (hplain : pagePenalty .full i.operation true = 0)
    (hm : i.operand = .implied)
    (hpush : executorOf i.operation .implied (latchOpcode i.opcodeByte s) = done (push8 v (latchOpcode i.opcodeByte s))) :
    ∃ t, exec i s = .next t ∧
      t = { latchOpcode i.opcodeByte s with
        sp := s.sp - 1, mem := t.mem, cycles := BitVec.ofNat 8 i.baseCycles
        busOps := s.busOps ++ [.write (stackAddress s.sp) v] } ∧
      byteAt t (stackAddress s.sp) = v ∧ ∀ a, a ≠ stackAddress s.sp → byteAt t a = byteAt s a := by
  refine ⟨_, exec_implied_of_done i hflat hofficial hplain hm hpush, ?_,
    byteAt_push8 (s := latchOpcode i.opcodeByte s) hflat hmem v⟩
  rw [push8_eq (s := latchOpcode i.opcodeByte s) hflat]
  rfl

/-- PLA's executor on the flat bus (47_stack_transfer.md R213). -/
theorem opPla_flat {s : State} (hflat : FlatBus s) (m : Operand) :
    opPla m s = done { s with
      a := byteAt s (stackAddress (s.sp + 1)), p := setZN (byteAt s (stackAddress (s.sp + 1))) s.p, sp := s.sp + 1
      busOps := s.busOps ++ [readOf s (stackAddress (s.sp + 1))] } := by
  rw [opPla, pull8_flat hflat]
  rfl

/-- PLP's executor on the flat bus (47_stack_transfer.md R214). -/
theorem opPlp_flat {s : State} (hflat : FlatBus s) (m : Operand) :
    opPlp m s = done { s with
      p := pulledStatus (byteAt s (stackAddress (s.sp + 1))), sp := s.sp + 1
      busOps := s.busOps ++ [readOf s (stackAddress (s.sp + 1))] } := by
  rw [opPlp, pull8_flat hflat]
  rfl

/-- PLA on the flat bus. -/
theorem exec_pla {s : State} (hflat : FlatBus s) :
    exec .pla s = .next { latchOpcode 0x68 s with
      a := byteAt s (stackAddress (s.sp + 1)), p := setZN (byteAt s (stackAddress (s.sp + 1))) s.p, sp := s.sp + 1
      cycles := 4, busOps := s.busOps ++ [readOf s (stackAddress (s.sp + 1))] } :=
  exec_implied_of_done .pla hflat rfl rfl rfl (opPla_flat (s := latchOpcode 0x68 s) hflat .implied)

/-- PLP on the flat bus. -/
theorem exec_plp {s : State} (hflat : FlatBus s) :
    exec .plp s = .next { latchOpcode 0x28 s with
      p := pulledStatus (byteAt s (stackAddress (s.sp + 1))), sp := s.sp + 1
      cycles := 4, busOps := s.busOps ++ [readOf s (stackAddress (s.sp + 1))] } :=
  exec_implied_of_done .plp hflat rfl rfl rfl (opPlp_flat (s := latchOpcode 0x28 s) hflat .implied)

/-! The transfers. -/

/-- The rows of TAX, TAY, TSX, TXA, TXS and TYA (30_encoding.md R84). -/
theorem transfer_rows : ∀ b, ∀ d ∈ descriptorOf b, d.operation ∈ [.tax, .tay, .tsx, .txa, .txs, .tya] →
    (b, d.mode, d.baseCycles) ∈
      [(0x8A, .implied, 2), (0x98, .implied, 2), (0x9A, .implied, 2), (0xA8, .implied, 2), (0xAA, .implied, 2),
       (0xBA, .implied, 2)] := by
  decide

/-- The transfers are official, without page penalty, and Implied (30_encoding.md R84, 40_cpu_cycle.md R107). -/
theorem transfer_class : ∀ b, ∀ d ∈ descriptorOf b, d.operation ∈ [.tax, .tay, .tsx, .txa, .txs, .tya] →
    d.operation.unofficial = false ∧ pagePenalty .full d.operation true = 0 ∧ d.mode = .implied := by
  decide

/-- Each transfer copies its own source to its own destination, and all but TXS set Z and N by the byte moved
(47_stack_transfer.md R215 to R220). -/
theorem transfer_executor {op : Operation} {s : State} {v : Byte}
    (h : (op, v) ∈ [(.tax, s.a), (.tay, s.a), (.tsx, s.sp), (.txa, s.x), (.txs, s.x), (.tya, s.y)]) :
    op ∈ [.tax, .tay, .tsx, .txa, .txs, .tya] ∧ ∃ f : State → State, executorOf op = direct f ∧
      ∀ b, f (latchOpcode b s) = { latchOpcode b s with
        a := if op = .txa ∨ op = .tya then v else s.a
        x := if op = .tax ∨ op = .tsx then v else s.x
        y := if op = .tay then v else s.y
        sp := if op = .txs then v else s.sp
        p := if op = .txs then s.p else setZN v s.p } := by
  simp only [List.mem_cons, Prod.mk.injEq, List.not_mem_nil, or_false] at h
  obtain ⟨rfl, rfl⟩ | ⟨rfl, rfl⟩ | ⟨rfl, rfl⟩ | ⟨rfl, rfl⟩ | ⟨rfl, rfl⟩ | ⟨rfl, rfl⟩ := h <;>
    exact ⟨by decide, _, rfl, fun _ => rfl⟩

/-! The statements. -/

/-- Settles O49: the frame of a push, of A or of the status byte as software pushes it. -/
theorem pushResult : Obligations.PushResult := fun _ hflat hmem =>
  ⟨exec_push .pha hflat hmem rfl rfl rfl rfl, exec_push .php hflat hmem rfl rfl rfl rfl⟩

/-- Settles O50: the frame of a pull, into A with its flags or into the bits of P that are taken. -/
theorem pullResult : Obligations.PullResult := fun s hflat =>
  ⟨⟨_, exec_pla hflat, rfl, hasZN_setZN .., setZN_onlyFlags _ s.p, fun _ => rfl⟩,
    ⟨_, exec_plp hflat, rfl, pulledStatus_onlyFlags _, flag_pulledStatus, flag_pulledStatus, fun _ => rfl⟩⟩

/-- Settles O51: the frame of an Implied instruction around the copy, whose flags TXS alone leaves. -/
theorem transferResult : Obligations.TransferResult := by
  intro i s v hflat h
  obtain ⟨hop, f, hf, hcopy⟩ := transfer_executor h
  obtain ⟨hofficial, hplain, hmode⟩ := row_of_table transfer_class i hop
  have hexec := exec_direct_implied i hflat hofficial hplain hmode hf
  rw [hcopy] at hexec
  refine ⟨row_of_table transfer_rows i hop, _, hexec, rfl, fun htxs => if_pos htxs, fun hne => ?_, fun _ => rfl⟩
  dsimp only
  rw [if_neg hne]
  exact ⟨hasZN_setZN .., setZN_onlyFlags _ s.p⟩

/-- Settles O25: the laws of push and pull, and PLP after PHP loads what P itself would give. -/
theorem stackRoundTrips : Obligations.StackRoundTrips := by
  refine ⟨fun s v hflat hmem => ?_, fun s t hflat hmem hexec => ?_⟩
  · obtain ⟨hbyte, hkeep⟩ := byteAt_push8 hflat hmem v
    exact ⟨stackAddress_toNat s.sp, push8_eq hflat v, hbyte, hkeep, pull8_flat hflat, pull8_push8 hflat hmem v⟩
  · obtain ⟨-, t', hexec', ht, hbyte, -⟩ := pushResult s hflat hmem
    obtain rfl : t' = t := Host.Outcome.next.inj (hexec'.symm.trans hexec)
    have hbus : FlatBus t' := (congrArg (·.params.bus) ht).trans hflat
    have hsp : t'.sp + 1 = s.sp := by rw [ht]; exact BitVec.sub_add_cancel ..
    refine ⟨_, exec_plp hbus, hsp, ?_⟩
    have hp : pulledStatus (byteAt t' (stackAddress (t'.sp + 1))) = pulledStatus s.p := by
      rw [hsp, hbyte]
      exact pulledStatus_pushedBySoftware s.p
    exact (Eq.congr_left hp).trans pulledStatus_eq_self_iff

end Sys2Proof.Machine
end

section
/-! PROOF. The entry of BRK, IRQ and NMI, the return from it, and `reset()`, on the flat bus (60_exceptions.md R266 to R272,
48_system.md R225, 70_reset_and_hazards.md R291). What an entry leaves on the stack is said once, for every vector; the vectors
lie above the stack page, so an entry loads pc from bytes its pushes leave alone. -/

namespace Sys2Proof.Machine

/-! The stack. -/

/-- `t` has the three bytes an entry from `s` pushes, wherever SP wraps, and every other byte of `s` (60_exceptions.md R266). -/
abbrev EntryStacked (s t : State) (returnTo : Word) (status : Byte) : Prop :=
  byteAt t (stackAddress s.sp) = hiByte returnTo ∧ byteAt t (stackAddress (s.sp - 1)) = loByte returnTo ∧
  byteAt t (stackAddress (s.sp - 2)) = status ∧
  ∀ a, a ≠ stackAddress s.sp → a ≠ stackAddress (s.sp - 1) → a ≠ stackAddress (s.sp - 2) → byteAt t a = byteAt s a

/-- The stack page ends below 0x0200 (20_memory.md R65). -/
theorem ne_stackAddress {a : Word} (h : 0x0200 ≤ a.toNat) (sp : Byte) : a ≠ stackAddress sp := by
  rintro rfl
  have hsp := sp.isLt
  rw [stackAddress_toNat] at h
  omega

section
variable {s : State} (hflat : FlatBus s) (hmem : Memory.wf s.mem = true)
include hflat hmem

theorem entryStacked_push (returnTo : Word) (status : Byte) :
    EntryStacked s (push8 status (push16 returnTo s)) returnTo status := by
  obtain ⟨hhi, hlo, hkeep⟩ := byteAt_push16 hflat hmem returnTo
  have hflat' : FlatBus (push16 returnTo s) := (congrArg Params.bus (push16_params ..)).trans hflat
  obtain ⟨hstatus, hkeep'⟩ := byteAt_push8 hflat' (push16_wf hmem) status
  rw [push16_sp] at hstatus hkeep'
  have hfirst : stackAddress s.sp ≠ stackAddress (s.sp - 2) := stackAddress_ne (by bv_omega)
  have hsecond : stackAddress (s.sp - 1) ≠ stackAddress (s.sp - 2) := stackAddress_ne (by bv_omega)
  exact ⟨(hkeep' _ hfirst).trans hhi, (hkeep' _ hsecond).trans hlo, hstatus,
    fun a h h' h'' => (hkeep' a h'').trans (hkeep a h h')⟩

/-! The entry. -/

/-- The entry on the flat bus, whatever the vector: pc from the bytes at the vector after the pushes, SP less 3, P.I set. -/
theorem enterInterrupt_result (vector returnTo : Word) (status : Byte) :
    ∃ t, enterInterrupt vector returnTo status s = .next t ∧
      t = { s with
        pc := wordOf (byteAt t (vector + 1)) (byteAt t vector), sp := s.sp - 3, p := t.p, mem := t.mem
        busOps := s.busOps ++ [.write (stackAddress s.sp) (hiByte returnTo),
          .write (stackAddress (s.sp - 1)) (loByte returnTo), .write (stackAddress (s.sp - 2)) status,
          readOf t vector, readOf t (vector + 1)] } ∧
      flag bitI t.p = true ∧ OnlyFlags [bitI] s.p t.p ∧ EntryStacked s t returnTo status := by
  refine ⟨_, enterInterrupt_flat hflat vector returnTo status, ?_, flag_setFlag_same (by decide),
    onlyFlags_setFlag (by decide) (onlyFlags_refl _ _) true, entryStacked_push hflat hmem returnTo status⟩
  have hsp : s.sp - 2#8 - 1#8 = s.sp - 3#8 := by bv_omega
  simp [push8_flat, push16_flat, hflat, hsp, byteAt, readOf]

/-- A vector above the stack page is read as it was before the pushes (20_memory.md R65, R66). -/
theorem enterInterrupt_vector {vector : Word} (hlow : 0x0200 ≤ vector.toNat) (hhigh : 0x0200 ≤ (vector + 1).toNat)
    (returnTo : Word) (status : Byte) :
    ∃ t, enterInterrupt vector returnTo status s = .next t ∧
      t = { s with
        pc := wordOf (byteAt s (vector + 1)) (byteAt s vector), sp := s.sp - 3, p := t.p, mem := t.mem
        busOps := s.busOps ++ [.write (stackAddress s.sp) (hiByte returnTo),
          .write (stackAddress (s.sp - 1)) (loByte returnTo), .write (stackAddress (s.sp - 2)) status,
          readOf s vector, readOf s (vector + 1)] } ∧
      flag bitI t.p = true ∧ OnlyFlags [bitI] s.p t.p ∧ EntryStacked s t returnTo status := by
  obtain ⟨t, henter, ht, hI, hflags, hstacked⟩ := enterInterrupt_result hflat hmem vector returnTo status
  have ⟨_, _, _, hkeep⟩ := hstacked
  have hread : ∀ a : Word, 0x0200 ≤ a.toNat → byteAt t a = byteAt s a := fun a ha =>
    hkeep a (ne_stackAddress ha _) (ne_stackAddress ha _) (ne_stackAddress ha _)
  have hreadOf : ∀ a : Word, 0x0200 ≤ a.toNat → readOf t a = readOf s a := fun a ha => congrArg (BusOp.read a) (hread a ha)
  rw [hread _ hlow, hread _ hhigh, hreadOf _ hlow, hreadOf _ hhigh] at ht
  exact ⟨t, henter, ht, hI, hflags, hstacked⟩

/-- The entry of IRQ and NMI (60_exceptions.md R266). -/
theorem interruptEntry_vector {vector : Word} (hlow : 0x0200 ≤ vector.toNat) (hhigh : 0x0200 ≤ (vector + 1).toNat) :
    ∃ t, interruptEntry vector s = .next t ∧
      t = { s with
        pc := wordOf (byteAt s (vector + 1)) (byteAt s vector), sp := s.sp - 3, p := t.p, mem := t.mem, cycles := 7
        busOps := s.busOps ++ [.write (stackAddress s.sp) (hiByte s.pc), .write (stackAddress (s.sp - 1)) (loByte s.pc),
          .write (stackAddress (s.sp - 2)) (pushedByInterrupt s.p), readOf s vector, readOf s (vector + 1)] } ∧
      flag bitI t.p = true ∧ OnlyFlags [bitI] s.p t.p ∧ EntryStacked s t s.pc (pushedByInterrupt s.p) := by
  obtain ⟨t, henter, ht, hrest⟩ := enterInterrupt_vector hflat hmem hlow hhigh s.pc (pushedByInterrupt s.p)
  refine ⟨{ t with cycles := intCycles }, ?_, congrArg (fun u : State => { u with cycles := intCycles }) ht, hrest⟩
  rw [interruptEntry, henter, andThen_next]

end

/-! The return. -/

/-- What the IRQ and NMI entries set and clear in the pushed byte, RTI does not take from it (10_state.md R24). -/
theorem pulledStatus_pushedByInterrupt (p : Byte) : pulledStatus (pushedByInterrupt p) = pulledStatus p := by
  have hkept : (0xEF &&& 0xCF : Byte) = 0xCF := rfl
  have hbits : (0x20 &&& 0xCF : Byte) = 0#8 := rfl
  rw [pulledStatus, pushedByInterrupt, BitVec.and_or_distrib_right, hbits, BitVec.or_zero, BitVec.and_assoc, hkept,
    pulledStatus]

/-- RTI on the flat bus (46_control_transfer.md R192). -/
theorem exec_rti {s : State} (hflat : FlatBus s) :
    exec .rti s = .next { latchOpcode 0x40 s with
      p := pulledStatus (byteAt s (stackAddress (s.sp + 1)))
      pc := wordOf (byteAt s (stackAddress (s.sp + 3))) (byteAt s (stackAddress (s.sp + 2)))
      sp := s.sp + 3, cycles := 6
      busOps := s.busOps ++ [readOf s (stackAddress (s.sp + 1)), readOf s (stackAddress (s.sp + 2)),
        readOf s (stackAddress (s.sp + 3))] } :=
  exec_implied_of_done .rti hflat rfl rfl rfl (opRti_flat (s := latchOpcode 0x40 s) hflat .implied)

/-- RTI after an entry pulls what the entry stacked: P, SP and the return address (60_exceptions.md R272). The entry's
callers load `cycles` in between. -/
theorem exec_rti_after_entry {s t : State} {vector returnTo : Word} {status : Byte} (hflat : FlatBus s)
    (hmem : Memory.wf s.mem = true) (henter : enterInterrupt vector returnTo status s = .next t)
    (hp : pulledStatus status = s.p) (c : Byte) :
    ∃ u, exec .rti { t with cycles := c } = .next u ∧
      u.pc = returnTo ∧ u.p = s.p ∧ u.sp = s.sp ∧ u.a = s.a ∧ u.x = s.x ∧ u.y = s.y := by
  obtain ⟨t', henter', ht, -, -, hhi, hlo, hstatus, -⟩ := enterInterrupt_result hflat hmem vector returnTo status
  obtain rfl : t' = t := Host.Outcome.next.inj (henter'.symm.trans henter)
  have heffect := (enterInterrupt_effect henter).1
  have hsp : t'.sp = s.sp - 3 := congrArg State.sp ht
  have hfirst : t'.sp + 1 = s.sp - 2 := by rw [hsp]; bv_omega
  have hsecond : t'.sp + 2 = s.sp - 1 := by rw [hsp]; bv_omega
  have hthird : t'.sp + 3 = s.sp := by rw [hsp]; bv_omega
  have hbus : FlatBus { t' with cycles := c } := (congrArg Params.bus heffect.params).trans hflat
  refine ⟨_, exec_rti hbus, ?returnTo, ?status, hthird, heffect.a rfl, heffect.x rfl, heffect.y rfl⟩
  case returnTo =>
    change wordOf (byteAt t' (stackAddress (t'.sp + 3))) (byteAt t' (stackAddress (t'.sp + 2))) = returnTo
    rw [hsecond, hthird, hhi, hlo, wordOf_hiByte_loByte]
  case status =>
    change pulledStatus (byteAt t' (stackAddress (t'.sp + 1))) = s.p
    rw [hfirst, hstatus, hp]

/-- BRK is an entry after the opcode latch that skips the byte after BRK (48_system.md R225). -/
theorem exec_brk {s t : State} (hflat : FlatBus s)
    (h : enterInterrupt vecIrq (s.pc + 2) (pushedBySoftware s.p) (latchOpcode 0x00 s) = .next t) :
    exec .brk s = .next { t with cycles := 7 } := by
  have hpc : s.pc + 1 + 1 = s.pc + 2 := by bv_omega
  have hdone : opBrk .implied (latchOpcode 0x00 s) = done t := by
    rw [opBrk, latchOpcode_pc, latchOpcode_p, hpc, h, andThen_next]
  exact exec_implied_of_done .brk hflat rfl rfl rfl hdone

/-! The statements. -/

/-- Settles O15: two reads of the reset vector, and the defaults of R291. -/
theorem resetEvent : Obligations.ResetEvent := by
  intro s rest hflat hs hin
  rw [step_cons hs hin, hostCall, resetCall, read16_flat (by exact hflat)]
  rfl

/-- Settles O16: mid-instruction a violation, masked nothing at all, else the entry through 0xFFFE. -/
theorem irqRequest : Obligations.IrqRequest := by
  intro s rest hflat hmem hs hin
  rw [step_cons hs hin, hostCall, irqCall]
  refine ⟨fun hmid => if_neg hmid, fun hidle hI => ?masked, fun hidle hI => ?taken⟩
  case masked => rw [if_pos hidle, if_pos hI]
  case taken =>
    rw [if_pos hidle, if_neg (Bool.eq_false_iff.mp hI)]
    exact interruptEntry_vector (s := { s with inputs := rest, busOps := [] }) hflat hmem (by decide) (by decide)

/-- Settles O17: mid-instruction a violation, else the entry through 0xFFFA, whatever P.I is. -/
theorem nmiRequest : Obligations.NmiRequest := by
  intro s rest hflat hmem hs hin
  rw [step_cons hs hin, hostCall, nmiCall]
  refine ⟨fun hmid => if_neg hmid, fun hidle => ?_⟩
  rw [if_pos hidle]
  exact interruptEntry_vector (s := { s with inputs := rest, busOps := [] }) hflat hmem (by decide) (by decide)

/-- Settles O52: the entry through 0xFFFE after the opcode latch, the byte after BRK skipped. -/
theorem brkResult : Obligations.BrkResult := by
  intro s hflat hmem
  obtain ⟨t, henter, ht, hrest⟩ := enterInterrupt_vector (s := latchOpcode 0x00 s) (vector := vecIrq) hflat hmem (by decide)
    (by decide) (s.pc + 2) (pushedBySoftware s.p)
  exact ⟨_, exec_brk hflat henter, congrArg (fun u : State => { u with cycles := 7 }) ht, hrest⟩

/-- Settles O21: RTI pulls what the entry stacked, and the pushed byte gives back a P of the form R24. -/
theorem returnUndoesEntry : Obligations.ReturnUndoesEntry := by
  intro s t hflat hmem hu hb
  have hstatus : pulledStatus s.p = s.p := pulledStatus_eq_self_iff.mpr ⟨hu, hb⟩
  refine ⟨fun vector h => ?interrupt, fun h => ?brk⟩
  case interrupt =>
    obtain ⟨t', henter, h⟩ := andThen_eq_next h
    cases h
    exact exec_rti_after_entry hflat hmem henter ((pulledStatus_pushedByInterrupt s.p).trans hstatus) intCycles
  case brk =>
    obtain ⟨t', henter, -⟩ := enterInterrupt_result (s := latchOpcode 0x00 s) hflat hmem vecIrq (s.pc + 2)
      (pushedBySoftware s.p)
    obtain rfl := Host.Outcome.next.inj ((exec_brk hflat henter).symm.trans h)
    exact exec_rti_after_entry (s := latchOpcode 0x00 s) hflat hmem henter
      ((pulledStatus_pushedBySoftware s.p).trans hstatus) 7

end Sys2Proof.Machine
end

section
/-! PROOF. The ways a transition can end, on every bus (60_exceptions.md R260 to R264). What is built from bus reads ends in an
answer or in BusFault where the bus has nothing (`BusEnds`), and every operation and permitted instruction is; the ends of a
step follow from the host call it is (`StepEnds`), and the statements on faults are read off the two. -/

namespace Sys2Proof.Machine

/-! The relation. -/

/-- `r` is an answer, in which `left` finds a state that extends `s`, or BusFault at an address where the bus of `s` has
nothing, under the policy `fault` (60_exceptions.md R262). -/
inductive BusEnds {α : Type} (s : State) (left : α → State) : Res α → Prop
  | next {v : α} (h : Extends s (left v)) : BusEnds s left (.next v)
  | busFault {a : Word} (h : accessAt s.params.bus a = .absent) (hp : s.params.absentPolicy = .fault) :
    BusEnds s left (.fault (.busFault a))

namespace BusEnds

variable {α β : Type} {s t : State} {left : α → State} {left' : β → State}

theorem of_extends {r : Res α} (h : Extends s t) (k : BusEnds t left r) : BusEnds s left r := by
  cases k with
  | next hv => exact .next (h.trans hv)
  | busFault ha hp =>
    rw [h.params] at ha hp
    exact .busFault ha hp

theorem andThen {r : Res α} {k : α → Res β} (h : BusEnds s left r) (hk : ∀ v, BusEnds (left v) left' (k v)) :
    BusEnds s left' (andThen r k) := by
  cases h with
  | next hv => exact of_extends hv (hk _)
  | busFault ha hp => exact .busFault ha hp

end BusEnds

/-! The bus and the stack. -/

theorem busRead_ends (a : Word) (v : Byte) (s : State) : BusEnds s id (busRead a v s) := by
  cases h : busRead a v s with
  | next t =>
    rw [busRead_next h]
    exact .next ⟨rfl, [.read a v], rfl⟩
  | fault f =>
    obtain ⟨rfl, ha, hp⟩ := busRead_fault h
    exact .busFault ha hp
  | refused f => exact absurd h busRead_not_refused

theorem memRead_ends (a : Word) (s : State) : BusEnds s Prod.snd (memRead a s) :=
  (busRead_ends a _ s).andThen fun _ => .next .kept

theorem next8_ends (d : Byte) (s : State) : BusEnds s id (next8 d s) :=
  (busRead_ends _ d s).andThen fun _ => .next .kept

theorem next16_ends (w : Word) (s : State) : BusEnds s id (next16 w s) :=
  (next8_ends _ s).andThen fun _ => next8_ends ..

theorem readPointer_ends (a : Word) (s : State) : BusEnds s Prod.snd (readPointer a s) :=
  (memRead_ends a s).andThen fun _ => (memRead_ends ..).andThen fun _ => .next .kept

theorem read16_ends (a : Word) (s : State) : BusEnds s Prod.snd (read16 a s) :=
  (memRead_ends a s).andThen fun _ => (memRead_ends ..).andThen fun _ => .next .kept

theorem pull8_ends (s : State) : BusEnds s Prod.snd (pull8 s) := .of_extends .kept (memRead_ends ..)

theorem pull16_ends (s : State) : BusEnds s Prod.snd (pull16 s) :=
  (pull8_ends s).andThen fun _ => (pull8_ends _).andThen fun _ => .next .kept

theorem enterInterrupt_ends (vector returnTo : Word) (status : Byte) (s : State) :
    BusEnds s id (enterInterrupt vector returnTo status s) :=
  .of_extends ((push16_extends returnTo s).trans (push8_extends status _)) <|
    .of_extends .kept <| (read16_ends ..).andThen fun _ => .next .kept

theorem returnFromInterrupt_ends (s : State) : BusEnds s id (returnFromInterrupt s) :=
  (pull8_ends s).andThen fun _ => .of_extends .kept <| (pull16_ends _).andThen fun _ => .next .kept

/-! The resolver and the operand fetch. -/

theorem resolve_ends (m : Operand) (s : State) : BusEnds s Prod.snd (resolve m s) := by
  cases m with
  | implied | accumulator | immediate _ => exact .next .kept
  | zeroPage d | zeroPageX d | zeroPageY d | relative d => exact (next8_ends d s).andThen fun _ => .next .kept
  | absolute w | absoluteX w | absoluteY w => exact (next16_ends w s).andThen fun _ => .next .kept
  | indirect w => exact (next16_ends w s).andThen fun _ => (readPointer_ends ..).andThen fun _ => .next .kept
  | indirectX d | indirectY d =>
    exact (next8_ends d s).andThen fun _ => (readPointer_ends ..).andThen fun _ => .next .kept

theorem operandRead_ends (m : Operand) (s : State) : BusEnds s Prod.snd (operandRead m s) := by
  cases m with
  | immediate d => exact (busRead_ends _ d s).andThen fun _ => .next .kept
  | _ => exact memRead_ends ..

theorem fetchBy_ends {deliver : State → Res (Byte × State)} {s : State} (hd : BusEnds s Prod.snd (deliver s)) (m : Mode) :
    BusEnds s Prod.snd (fetchBy deliver m s) := by
  unfold fetchBy
  split
  · exact .next .kept
  split
  · exact .next .kept
  exact hd.andThen fun _ => .next .kept

theorem fetchOperand_ends (m : Operand) (s : State) : BusEnds s Prod.snd (fetchOperand m s) :=
  fetchBy_ends (operandRead_ends m s) m.mode

/-! The executors, by class. -/

/-- An executor ends so in every mode. -/
def Executor.BusEnds (e : Executor) : Prop := ∀ (m : Operand) (s : State), Machine.BusEnds s Prod.snd (e m s)

theorem direct_ends {f : State → State} (hf : ∀ s, Extends s (f s)) : (direct f).BusEnds := fun _ s => .next (hf s)

theorem readClass_ends {f : Byte → State → State} (hf : ∀ v s, Extends s (f v s)) : (readClass f).BusEnds :=
  fun m s => (fetchOperand_ends m s).andThen fun _ => .next (hf ..)

theorem modifyMemory_ends {f : ByteFn} {after : Byte → State → State} (hafter : ∀ v s, Extends s (after v s)) :
    (modifyMemory f after).BusEnds := fun m s =>
  (fetchOperand_ends m s).andThen fun _ => .of_extends .kept <| .next ((memWrite_extends ..).trans (hafter ..))

theorem modify_ends (f : ByteFn) : (modify f).BusEnds := by
  intro m s
  cases m with
  | accumulator => exact .next .kept
  | _ => exact modifyMemory_ends (fun _ _ => .kept) _ s

theorem branch_ends (cond : State → Bool) : (branch cond).BusEnds := by
  intro _ s
  unfold branch
  split
  · exact .next .kept
  · exact .next .kept

theorem executorOf_ends (op : Operation) : (executorOf op).BusEnds := by
  cases op with dsimp only [executorOf]
  | adc | sbc | and | eor | ora | lda | ldx | ldy | cmp | cpx | cpy | bit | alr | anc | arr | axs | lax | skb | ign =>
    exact readClass_ends fun _ _ => .kept
  | asl | lsr | rol | ror | inc | dec => exact modify_ends _
  | dcp | isc | rla | rra | slo | sre => exact modifyMemory_ends fun _ _ => .kept
  | sta | stx | sty | sax => exact fun _ _ => .next (memWrite_extends ..)
  | inx | iny | dex | dey | txa | tya | tax | tay | tsx | txs | sec | sed | sei | clc | cld | cli | clv | jmp | nop =>
    exact direct_ends fun _ => .kept
  | pha | php => exact direct_ends fun _ => push8_extends ..
  | bcc | bcs | beq | bne | bmi | bpl | bvc | bvs => exact branch_ends _
  | jsr => exact fun _ s => .next ((push16_extends ..).trans .kept)
  | rts => exact fun _ s => (pull16_ends s).andThen fun _ => .next .kept
  | rti => exact fun _ s => (returnFromInterrupt_ends s).andThen fun _ => .next .kept
  | pla | plp => exact fun _ s => (pull8_ends s).andThen fun _ => .next .kept
  | brk => exact fun _ s => (enterInterrupt_ends _ _ _ s).andThen fun _ => .next .kept

theorem runs_ends (u : UnofficialExec) (op : Operation) : (runs u op).BusEnds := by
  unfold runs
  split
  · exact fun _ _ => .next .kept
  · exact executorOf_ends op

theorem exec_ends {i : Instr} {s : State} (hp : Permitted i s) : BusEnds s id (exec i s) := by
  rw [exec_runs i s hp]
  exact .of_extends .kept <| (resolve_ends ..).andThen fun _ => (runs_ends ..).andThen fun _ => .next .kept

theorem not_permitted_iff {i : Instr} {s : State} :
    ¬ Permitted i s ↔ i.operation.unofficial = true ∧ s.params.unofficialExec = .fault := by
  rw [Permitted, Classical.not_imp, not_not]

/-- An instruction is permitted and ends as its bus reads do, or it is an unofficial one under UNOFFICIAL_EXEC = fault and
raises DecodeFailure (49_unofficial.md R235). -/
theorem exec_cases (i : Instr) (s : State) :
    Permitted i s ∧ BusEnds s id (exec i s) ∨
      ¬ Permitted i s ∧ exec i s = .fault (.decodeFailure i.opcodeByte s.pc) := by
  by_cases hp : Permitted i s
  case pos => exact .inl ⟨hp, exec_ends hp⟩
  case neg =>
    obtain ⟨hu, hf⟩ := not_permitted_iff.mp hp
    exact .inr ⟨hp, exec_forbidden i s hu hf⟩

/-! The opcode fetch. -/

/-- Three bytes hold every instruction: the decoder refuses an unassigned opcode byte only (30_encoding.md R83, R86). -/
theorem decode_three (b lo hi : Byte) :
    descriptorOf b = none ∧ decode [b, lo, hi] = .error (.unassigned b) ∨
      ∃ i rest, decode [b, lo, hi] = .ok (i, rest) ∧ i.opcodeByte = b := by
  cases hs : shapeOf b with
  | none => exact .inl ⟨Option.map_eq_none_iff.mpr hs, decode_unassigned hs _⟩
  | some t =>
    obtain ⟨i, rest, hdecode⟩ : ∃ i rest, decode [b, lo, hi] = .ok (i, rest) := by
      cases t with
      | op i => exact ⟨_, _, decode_op hs _⟩
      | d8 make => exact ⟨_, _, decode_d8 hs lo _⟩
      | a16 make => exact ⟨_, _, decode_a16 hs lo hi _⟩
    obtain ⟨-, hbytes⟩ := encodeDecode _ _ _ hdecode
    exact .inr ⟨i, rest, hdecode, (List.cons.inj hbytes).1.symm⟩

/-- Once the opcode byte is read, it is an unassigned one, or an instruction of that byte runs (40_cpu_cycle.md R103, R111). -/
theorem executeOneInstruction_cases {s : State} {r : Byte × State} (h : memRead s.pc s = .next r) :
    descriptorOf r.1 = none ∧ executeOneInstruction s = .fault (.decodeFailure r.1 s.pc) ∨
      ∃ i, i.opcodeByte = r.1 ∧ executeOneInstruction s = exec i r.2 := by
  rw [executeOneInstruction, h, andThen_next]
  obtain ⟨hnone, hdecode⟩ | ⟨i, rest, hdecode, hi⟩ := decode_three r.1 _ _
  · exact .inl ⟨hnone, by rw [operandBytesAt, hdecode]⟩
  · exact .inr ⟨i, hi, by rw [operandBytesAt, hdecode]⟩

/-- The byte is one DecodeFailure is raised on: unassigned, or unofficial under UNOFFICIAL_EXEC = fault
(60_exceptions.md R261). -/
abbrev Undecodable (s : State) (b : Byte) : Prop :=
  descriptorOf b = none ∨
    s.params.unofficialExec = .fault ∧ ∃ d, descriptorOf b = some d ∧ d.operation.unofficial = true

theorem undecodable_opcodeByte_iff {i : Instr} {s : State} : Undecodable s i.opcodeByte ↔ ¬ Permitted i s := by
  rw [not_permitted_iff]
  simp [Undecodable, descriptorOf_opcodeByte, Instr.descriptor, and_comm]

/-- Once an undecodable byte is read, DecodeFailure is raised; on every other byte a permitted instruction runs. -/
theorem executeOneInstruction_read {s : State} {r : Byte × State} (h : memRead s.pc s = .next r) :
    Undecodable s r.1 ∧ executeOneInstruction s = .fault (.decodeFailure r.1 s.pc) ∨
      ¬ Undecodable s r.1 ∧ BusEnds s id (executeOneInstruction s) := by
  obtain ⟨hnone, hfail⟩ | ⟨i, hi, hrun⟩ := executeOneInstruction_cases h
  · exact .inl ⟨.inl hnone, hfail⟩
  have hread := (memRead_next h).2
  have hparams : r.2.params = s.params := by rw [hread]
  have hpc : r.2.pc = s.pc := by rw [hread]
  have hpermitted : Permitted i r.2 ↔ Permitted i s := by rw [Permitted, hparams]
  rw [← hi, hrun]
  obtain ⟨hp, hends⟩ | ⟨hp, hfail⟩ := exec_cases i r.2
  · have hextends : Extends s r.2 := ⟨hparams, [.read s.pc (busByte s s.pc)], by rw [hread]⟩
    exact .inr ⟨fun hb => undecodable_opcodeByte_iff.mp hb (hpermitted.mp hp), .of_extends hextends hends⟩
  · exact .inl ⟨undecodable_opcodeByte_iff.mpr (mt hpermitted.mpr hp), hpc ▸ hfail⟩

theorem executeOneInstruction_ends (s : State) :
    BusEnds s id (executeOneInstruction s) ∨
      ∃ b t, memRead s.pc s = .next (b, t) ∧ Undecodable s b ∧
        executeOneInstruction s = .fault (.decodeFailure b s.pc) := by
  have hends := memRead_ends s.pc s
  generalize hread : memRead s.pc s = q at hends
  cases hends with
  | next _ =>
    obtain ⟨hb, hfail⟩ | ⟨-, hends⟩ := executeOneInstruction_read hread
    · exact .inr ⟨_, _, rfl, hb, hfail⟩
    · exact .inl hends
  | busFault ha hp =>
    rw [executeOneInstruction, hread]
    exact .inl (.busFault ha hp)

/-! One step. -/

/-- Every way a step of an unfaulted block can end, with what each fault says of the state (60_exceptions.md R260 to R263;
the violation no run reaches is log 11). -/
inductive StepEnds (s : State) : Res State → Prop
  | next (t : State) : StepEnds s (.next t)
  | busFault {a : Word} (h : accessAt s.params.bus a = .absent) (hp : s.params.absentPolicy = .fault) :
    StepEnds s (.fault (.busFault a))
  | decodeFailure {b : Byte} {t : State} (hdue : ClockDue s) (hidle : s.cycles = 0)
    (hread : memRead s.pc (begun s) = .next (b, t)) (hb : Undecodable s b) :
    StepEnds s (.fault (.decodeFailure b s.pc))
  | fetchWithoutInstruction (hcall : s.inputs.head? = some .fetch) (hl : s.instrLatched = false) :
    StepEnds s (.fault (.invariantViolation .fetchWithoutInstruction))
  | latchedByteUnassigned (hl : s.instrLatched = true) (hd : descriptorOf s.opcode = none) :
    StepEnds s (.fault (.invariantViolation .latchedByteUnassigned))
  | interruptMidInstruction (hcall : s.inputs.head? = some .irq ∨ s.inputs.head? = some .nmi) (hmid : s.cycles ≠ 0) :
    StepEnds s (.fault (.invariantViolation .interruptMidInstruction))

theorem StepEnds.of_busEnds {s : State} {r : Res State} (h : BusEnds (begun s) id r) : StepEnds s r := by
  cases h with
  | next _ => exact .next _
  | busFault ha hp => exact .busFault ha hp

theorem clock_ends {s : State} (hdue : ClockDue s) : StepEnds s (clock (begun s)) := by
  by_cases hidle : s.cycles = 0
  case neg =>
    rw [clock_mid (s := begun s) hidle]
    exact .next _
  case pos =>
    rw [clock, if_pos (show (begun s).cycles = 0 from hidle)]
    obtain hends | ⟨b, t, hread, hb, hfail⟩ := executeOneInstruction_ends (begun s)
    · exact .of_busEnds (hends.andThen fun _ => .next .kept)
    · rw [hfail]
      exact .decodeFailure hdue hidle hread hb

theorem fetchCall_ends {s : State} (hcall : s.inputs.head? = some .fetch) : StepEnds s (fetchCall (begun s)) := by
  unfold fetchCall
  split
  next hl =>
    split
    next d _ => exact .of_busEnds ((fetchBy_ends (memRead_ends ..) d.mode).andThen fun _ => .next .kept)
    next hd => exact .latchedByteUnassigned hl hd
  next hl => exact .fetchWithoutInstruction hcall (Bool.eq_false_of_not_eq_true hl)

theorem interruptEntry_ends (vector : Word) (s : State) : BusEnds s id (interruptEntry vector s) :=
  (enterInterrupt_ends ..).andThen fun _ => .next .kept

theorem irqCall_ends {s : State} (hcall : s.inputs.head? = some .irq) : StepEnds s (irqCall (begun s)) := by
  unfold irqCall
  split
  · split
    · exact .next _
    · exact .of_busEnds (interruptEntry_ends ..)
  next hmid => exact .interruptMidInstruction (.inl hcall) hmid

theorem nmiCall_ends {s : State} (hcall : s.inputs.head? = some .nmi) : StepEnds s (nmiCall (begun s)) := by
  unfold nmiCall
  split
  · exact .of_busEnds (interruptEntry_ends ..)
  next hmid => exact .interruptMidInstruction (.inr hcall) hmid

/-- The ends of a step are those of the host call it is. -/
theorem step_ends {s : State} (hs : s.faulted = false) : StepEnds s (step s) := by
  rw [step_eq s hs]
  cases hcall : s.inputs.head? with
  | none => exact clock_ends ⟨hs, .inl (List.head?_eq_none_iff.mp hcall)⟩
  | some e =>
    cases e with
    | clock => exact clock_ends ⟨hs, .inr hcall⟩
    | fetch => exact fetchCall_ends hcall
    | reset => exact .of_busEnds ((read16_ends ..).andThen fun _ => .next .kept)
    | irq => exact irqCall_ends hcall
    | nmi => exact nmiCall_ends hcall
    | busWrite a v => exact .next _

theorem step_faulted {s : State} (hs : s.faulted = true) : step s = .refused .blockFaulted := if_pos hs

theorem stepEnds_of_fault {s : State} {f : Fault} (h : step s = .fault f) : StepEnds s (.fault f) := by
  cases hs : s.faulted with
  | true => cases (step_faulted hs).symm.trans h
  | false => exact h ▸ step_ends hs

/-! The statements. -/

/-- Settles O59: an instruction ends in DecodeFailure exactly where the policy says so. -/
theorem unofficialFault : Obligations.UnofficialFault := by
  refine ⟨exec_forbidden, fun i s b p h => ?_⟩
  obtain ⟨-, hends⟩ | ⟨hp, hfail⟩ := exec_cases i s
  · rw [h] at hends
    cases hends
  · cases hfail.symm.trans h
    obtain ⟨hu, hf⟩ := not_permitted_iff.mp hp
    exact ⟨hu, hf, rfl, rfl⟩

/-- Settles O8: the one end of a step that is DecodeFailure, and the state of its one read. -/
theorem decodeFailureExactly : Obligations.DecodeFailureExactly := by
  intro s b p hs
  have hforward : step s = .fault (.decodeFailure b p) →
      ClockDue s ∧ s.cycles = 0 ∧ p = s.pc ∧ (∃ t, memRead s.pc (begun s) = .next (b, t)) ∧ Undecodable s b := by
    intro h
    cases stepEnds_of_fault h with
    | decodeFailure hdue hidle hread hb => exact ⟨hdue, hidle, rfl, ⟨_, hread⟩, hb⟩
  refine ⟨⟨hforward, ?backward⟩, fun h => ?left⟩
  case backward =>
    rintro ⟨hdue, hidle, rfl, ⟨t, hread⟩, hb⟩
    obtain ⟨-, hfail⟩ | ⟨hb', -⟩ := executeOneInstruction_read (s := begun s) hread
    · rw [step_clock hdue, clock, if_pos (show (begun s).cycles = 0 from hidle), hfail]
      rfl
    · exact absurd hb hb'
  case left =>
    obtain ⟨-, -, rfl, ⟨t, hread⟩, -⟩ := hforward h
    obtain ⟨hbyte, ht⟩ := memRead_next hread
    have hcount := memRead_deviceReads hread
    rw [h, settle, afterFault_decodeFailure hread, ht, hcount, ← hbyte]
    rfl

/-- Settles O9: no end of an unfaulted block's step is a refusal, and every fault sets the sticky bit. -/
theorem faultedBlock : Obligations.FaultedBlock := by
  refine ⟨fun s r => ⟨fun h => ?refused, ?faulted⟩, fun s f h => ?settled⟩
  case refused =>
    cases hs : s.faulted with
    | true =>
      cases (step_faulted hs).symm.trans h
      exact ⟨rfl, rfl⟩
    | false =>
      have hends := step_ends hs
      rw [h] at hends
      cases hends
  case faulted =>
    rintro ⟨hs, rfl⟩
    exact step_faulted hs
  case settled =>
    have hsettled : (settle s (step s)).faulted = true := by
      rw [h]
      exact afterFault_faulted f s
    exact ⟨hsettled, step_faulted hsettled⟩

/-- Settles O10: BusFault comes from a read where the bus has nothing, and the flat bus has RAM everywhere. -/
theorem busFaultOnlyWhereAbsent : Obligations.BusFaultOnlyWhereAbsent := by
  intro s a h
  cases stepEnds_of_fault h with
  | busFault ha hp =>
    refine ⟨ha, hp, fun hflat => ?_⟩
    rw [accessAt_of_flatBus hflat] at ha
    cases ha

/-- Settles O18: two ends of a step are a violation a run reaches, and each call raises its own. -/
theorem hostErrors : Obligations.HostErrors := by
  intro s v hinv hs
  obtain ⟨-, -, -, -, hopcode, -⟩ := hinv
  constructor
  · intro h
    cases stepEnds_of_fault h with
    | fetchWithoutInstruction hcall hl => exact .inl ⟨rfl, hcall, hl⟩
    | latchedByteUnassigned hl hd => exact absurd (hopcode hl) (by simp [hd])
    | interruptMidInstruction hcall hmid => exact .inr ⟨rfl, hcall, hmid⟩
  · rw [step_eq s hs]
    rintro (⟨rfl, hcall, hl⟩ | ⟨rfl, hcall | hcall, hmid⟩) <;> rw [hcall]
    · exact if_neg (by simp [hl])
    · exact if_neg hmid
    · exact if_neg hmid

end Sys2Proof.Machine
end

section
/-! PROOF. BIT, NOP and the unofficial operations on the flat bus (48_system.md, 49_unofficial.md). Under UNOFFICIAL_EXEC = nop
an unofficial instruction is the frame alone. Under full each runs in the frame of its class, a read, a store or a
read-modify-write, around a byte function that meets its rule. -/

namespace Sys2Proof.Machine

/-! The byte functions. -/

/-- BIT copies bit 6 of the operand (48_system.md R226). -/
theorem getLsbD_six (v : Byte) : v.getLsbD 6 = decide (64 ≤ v.toNat % 128) := by
  rw [BitVec.getLsbD, Nat.testBit_eq_decide_div_mod_eq, decide_eq_decide]
  omega

/-- BIT's flags: Z of the and, N and V of the operand, no other (48_system.md R226). -/
theorem bitRule_bitTestFlags (a m p : Byte) :
    flag bitZ (bitTestFlags a m p) = decide (a &&& m = 0) ∧
    flag bitN (bitTestFlags a m p) = decide (128 ≤ m.toNat) ∧
    flag bitV (bitTestFlags a m p) = decide (64 ≤ m.toNat % 128) ∧
    OnlyFlags [bitZ, bitN, bitV] p (bitTestFlags a m p) := by
  refine ⟨?zero, ?negative, ?overflow, onlyFlags_mono (bitTestFlags_onlyFlags a m p)⟩
  case zero =>
    rw [bitTestFlags, flag_setFlag_ne (by decide) (by decide), flag_setFlag_ne (by decide) (by decide),
      flag_setFlag_same (by decide)]
  case negative =>
    rw [bitTestFlags, flag_setFlag_ne (by decide) (by decide), flag_setFlag_same (by decide), getLsbD_seven]
  case overflow => rw [bitTestFlags, flag_setFlag_same (by decide), getLsbD_six]

/-- ANC's byte function: bit 7 of the result is the carry (49_unofficial.md R237). -/
theorem ancRule_ancByte (a m p : Byte) :
    HasZN (ancByte a m p).1 (ancByte a m p).2 ∧
    flag bitC (ancByte a m p).2 = decide (128 ≤ (ancByte a m p).1.toNat) ∧
    OnlyFlags [bitC, bitZ, bitN] p (ancByte a m p).2 := by
  obtain ⟨hzero, hnegative⟩ := hasZN_setZN (a &&& m) p
  refine ⟨⟨?zero, ?negative⟩, ?carry, ancByte_onlyFlags a m p⟩
  case zero => exact (flag_setFlag_ne (by decide) (by decide)).trans hzero
  case negative => exact (flag_setFlag_ne (by decide) (by decide)).trans hnegative
  case carry => exact (flag_setFlag_same (by decide)).trans (getLsbD_seven _)

/-- ARR's byte function: the and rotated right, the carry from bit 6 of the result, V from bits 6 and 5
(49_unofficial.md R238). -/
theorem arrRule_arrByte (a m p : Byte) :
    (arrByte a m p).1.toNat = (a &&& m).toNat / 2 + 128 * (flag bitC p).toNat ∧
    HasZN (arrByte a m p).1 (arrByte a m p).2 ∧
    flag bitC (arrByte a m p).2 = (arrByte a m p).1.getLsbD 6 ∧
    flag bitV (arrByte a m p).2 = ((arrByte a m p).1.getLsbD 6 ^^ (arrByte a m p).1.getLsbD 5) ∧
    OnlyFlags [bitC, bitZ, bitV, bitN] p (arrByte a m p).2 := by
  obtain ⟨hzero, hnegative⟩ := hasZN_setZN (arrByte a m p).1 p
  have hkept : ∀ k, k ≠ bitV → k ≠ bitC → flag k (arrByte a m p).2 = flag k (setZN (arrByte a m p).1 p) :=
    fun k hv hc => (flag_setFlag_ne (by decide) hv).trans (flag_setFlag_ne (by decide) hc)
  refine ⟨rotateRight_toNat (a &&& m) (flag bitC p), ⟨?zero, ?negative⟩, ?carry, ?overflow, arrByte_onlyFlags a m p⟩
  case zero => exact (hkept bitZ (by decide) (by decide)).trans hzero
  case negative => exact (hkept bitN (by decide) (by decide)).trans hnegative
  case carry => exact (flag_setFlag_ne (by decide) (by decide)).trans (flag_setFlag_same (by decide))
  case overflow => exact flag_setFlag_same (by decide)

/-- AXS's byte function: the difference, with the flags of the compare (49_unofficial.md R239). -/
theorem axsRule_axsByte (a x m p : Byte) :
    (axsByte a x m p).1.toNat = ((a &&& x).toNat + 256 - m.toNat) % 256 ∧
    CompareRule (a &&& x) m p (axsByte a x m p).2 := by
  refine ⟨?_, compareRule_compareFlags (a &&& x) m p⟩
  have hm := m.isLt
  rw [axsByte, BitVec.toNat_sub]
  omega

/-! The rows of the opcode table. -/

/-- The rows of BIT (30_encoding.md R84). -/
theorem bit_rows : ∀ b, ∀ d ∈ descriptorOf b, d.operation = .bit → (b, d.mode, d.baseCycles) ∈
    [(0x24, .zeroPage, 3), (0x2C, .absolute, 4)] := by
  decide

/-- The row of NOP (30_encoding.md R84). -/
theorem nop_row : ∀ b, ∀ d ∈ descriptorOf b, d.operation = .nop → b = 0xEA ∧ d.mode = .implied ∧ d.baseCycles = 2 := by
  decide

/-- The rows of ALR, ANC, ARR and AXS (30_encoding.md R85). -/
theorem unofficialImmediate_rows : ∀ b, ∀ d ∈ descriptorOf b, d.operation ∈ [.alr, .anc, .arr, .axs] →
    (b, d.mode, d.baseCycles) ∈
      [(0x0B, .immediate, 2), (0x2B, .immediate, 2), (0x4B, .immediate, 2), (0x6B, .immediate, 2),
       (0xCB, .immediate, 2)] := by
  decide

theorem unofficialImmediate_base : ∀ b, ∀ d ∈ descriptorOf b, d.operation ∈ [.alr, .anc, .arr, .axs] → d.baseCycles = 2 := by
  decide

/-- The rows of LAX, SKB and IGN (30_encoding.md R85). -/
theorem unofficialRead_rows : ∀ b, ∀ d ∈ descriptorOf b, d.operation ∈ [.lax, .skb, .ign] →
    (b, d.mode, d.baseCycles) ∈
      [(0x04, .zeroPage, 3), (0x0C, .absolute, 4), (0x14, .zeroPageX, 4), (0x1C, .absoluteX, 4),
       (0x34, .zeroPageX, 4), (0x3C, .absoluteX, 4), (0x44, .zeroPage, 3), (0x54, .zeroPageX, 4),
       (0x5C, .absoluteX, 4), (0x64, .zeroPage, 3), (0x74, .zeroPageX, 4), (0x7C, .absoluteX, 4),
       (0x80, .immediate, 2), (0x82, .immediate, 2), (0x89, .immediate, 2), (0xA3, .indirectX, 6),
       (0xA7, .zeroPage, 3), (0xAF, .absolute, 4), (0xB3, .indirectY, 5), (0xB7, .zeroPageY, 4),
       (0xBF, .absoluteY, 4), (0xC2, .immediate, 2), (0xD4, .zeroPageX, 4), (0xDC, .absoluteX, 4),
       (0xE2, .immediate, 2), (0xF4, .zeroPageX, 4), (0xFC, .absoluteX, 4)] := by
  decide

/-- The rows of SAX (30_encoding.md R85). -/
theorem sax_rows : ∀ b, ∀ d ∈ descriptorOf b, d.operation = .sax → (b, d.mode, d.baseCycles) ∈
    [(0x83, .indirectX, 6), (0x87, .zeroPage, 3), (0x8F, .absolute, 4), (0x97, .zeroPageY, 4)] := by
  decide

/-- The rows of DCP, ISC, RLA, RRA, SLO and SRE (30_encoding.md R85). -/
theorem unofficialModify_rows : ∀ b, ∀ d ∈ descriptorOf b, d.operation ∈ [.dcp, .isc, .rla, .rra, .slo, .sre] →
    (b, d.mode, d.baseCycles) ∈
      [(0x03, .indirectX, 8), (0x07, .zeroPage, 5), (0x0F, .absolute, 6), (0x13, .indirectY, 8),
       (0x17, .zeroPageX, 6), (0x1B, .absoluteY, 7), (0x1F, .absoluteX, 7), (0x23, .indirectX, 8),
       (0x27, .zeroPage, 5), (0x2F, .absolute, 6), (0x33, .indirectY, 8), (0x37, .zeroPageX, 6),
       (0x3B, .absoluteY, 7), (0x3F, .absoluteX, 7), (0x43, .indirectX, 8), (0x47, .zeroPage, 5),
       (0x4F, .absolute, 6), (0x53, .indirectY, 8), (0x57, .zeroPageX, 6), (0x5B, .absoluteY, 7),
       (0x5F, .absoluteX, 7), (0x63, .indirectX, 8), (0x67, .zeroPage, 5), (0x6F, .absolute, 6),
       (0x73, .indirectY, 8), (0x77, .zeroPageX, 6), (0x7B, .absoluteY, 7), (0x7F, .absoluteX, 7),
       (0xC3, .indirectX, 8), (0xC7, .zeroPage, 5), (0xCF, .absolute, 6), (0xD3, .indirectY, 8),
       (0xD7, .zeroPageX, 6), (0xDB, .absoluteY, 7), (0xDF, .absoluteX, 7), (0xE3, .indirectX, 8),
       (0xE7, .zeroPage, 5), (0xEF, .absolute, 6), (0xF3, .indirectY, 8), (0xF7, .zeroPageX, 6),
       (0xFB, .absoluteY, 7), (0xFF, .absoluteX, 7)] := by
  decide

/-- BIT, the unofficial immediate operations and the unofficial read-modify-writes read an operand and are without page
penalty (40_cpu_cycle.md R107). -/
theorem plainRead_rows : ∀ b, ∀ d ∈ descriptorOf b,
    d.operation ∈ [.bit, .alr, .anc, .arr, .axs, .dcp, .isc, .rla, .rra, .slo, .sre] →
      hasNoAddress d.mode = false ∧ pagePenalty .full d.operation true = 0 := by
  decide

/-- LAX, SKB and IGN read an operand, and are in PAGE_PENALTY_CLASS or cross no page (40_cpu_cycle.md R107). -/
theorem unofficialRead_class : ∀ b, ∀ d ∈ descriptorOf b, d.operation ∈ [.lax, .skb, .ign] →
    hasNoAddress d.mode = false ∧
      (pagePenaltyClass .full d.operation = true ∨ d.mode ∉ [.absoluteX, .absoluteY, .indirectY]) := by
  decide

/-! The policy. -/

/-- No unofficial operation is in PAGE_PENALTY_CLASS under `nop` (40_cpu_cycle.md R107). -/
theorem pagePenalty_nop {op : Operation} (h : op.unofficial = true) (crossed : Bool) : pagePenalty .nop op crossed = 0 := by
  have hofficial : ∀ op ∈ [Operation.lda, .ldx, .ldy, .adc, .sbc, .and, .eor, .ora, .cmp], op.unofficial = false := by
    decide
  rw [pagePenalty_eq, if_neg]
  rintro ⟨-, hclass | ⟨hfull, -⟩⟩
  · exact absurd (h.symm.trans (hofficial op hclass)) (by decide)
  · cases hfull

theorem permitted_of_full {s : State} (h : s.params.unofficialExec = .full) (i : Instr) : Permitted i s :=
  fun _ hf => by rw [h] at hf; cases hf

theorem runs_of_full {s : State} (h : s.params.unofficialExec = .full) (op : Operation) :
    runs s.params.unofficialExec op = executorOf op := by
  rw [h, runs_full]

/-! The executors. -/

/-- A and P become the result and the status byte that a byte function gives for A, an operand and P. -/
def accumulate (g : Byte → Byte → Byte → Byte × Byte) (v : Byte) (s : State) : State :=
  { s with a := (g s.a v s.p).1, p := (g s.a v s.p).2 }

/-- LAX, SKB and IGN under `full`: the operand goes to A and X with its flags, or nowhere (49_unofficial.md R240, R248, R249). -/
theorem unofficialRead_executor {op : Operation} (h : op ∈ [.lax, .skb, .ign]) :
    executorOf op = readClass fun v s => { s with
      a := if op = .lax then v else s.a
      x := if op = .lax then v else s.x
      p := if op = .lax then setZN v s.p else s.p } := by
  simp only [List.mem_cons, List.not_mem_nil, or_false] at h
  obtain rfl | rfl | rfl := h <;> rfl

/-- The rules of the unofficial read-modify-writes (49_unofficial.md R242 to R247): the operand `m` becomes `r` in memory,
A and P become `a'` and `p'`. -/
abbrev ModifyRule (op : Operation) (a m p r a' p' : Byte) : Prop :=
  (op = .dcp → r.toNat = (m.toNat + 255) % 256 ∧ a' = a ∧ CompareRule a r p p') ∧
  (op = .isc → r.toNat = (m.toNat + 1) % 256 ∧ SbcRule a r p a' p') ∧
  (op = .rla → ∃ q, ShiftRule .rol m p r q ∧ a' = a &&& r ∧ HasZN a' p' ∧ OnlyFlags [bitZ, bitN] q p') ∧
  (op = .rra → ∃ q, ShiftRule .ror m p r q ∧ AdcRule a r q a' p') ∧
  (op = .slo → ∃ q, ShiftRule .asl m p r q ∧ a' = a ||| r ∧ HasZN a' p' ∧ OnlyFlags [bitZ, bitN] q p') ∧
  (op = .sre → ∃ q, ShiftRule .lsr m p r q ∧ a' = a ^^^ r ∧ HasZN a' p' ∧ OnlyFlags [bitZ, bitN] q p')

/-- Each unofficial read-modify-write is a byte function on memory, then one on A with the carry just produced, and the two
meet its rule. -/
theorem unofficialModify_executor {op : Operation} (hop : op ∈ [.dcp, .isc, .rla, .rra, .slo, .sre]) :
    ∃ (f : ByteFn) (g : Byte → Byte → Byte → Byte × Byte), executorOf op = modifyMemory f (accumulate g) ∧
      ∀ a m p, ModifyRule op a m p (f m p).1 (g a (f m p).1 (f m p).2).1 (g a (f m p).1 (f m p).2).2 := by
  have hlogic := fun v q : Byte => And.intro (hasZN_setZN v q) (setZN_onlyFlags v q)
  simp only [List.mem_cons, List.not_mem_nil, or_false] at hop
  obtain rfl | rfl | rfl | rfl | rfl | rfl := hop
  · exact ⟨fun v p => (v - 1, p), fun a r p => (a, compareFlags a r p), rfl, fun a m p =>
      ⟨fun _ => ⟨sub_one_toNat m, rfl, compareRule_compareFlags a _ p⟩, nofun, nofun, nofun, nofun, nofun⟩⟩
  · exact ⟨fun v p => (v + 1, p), subtractWithBorrow, rfl, fun a m p =>
      ⟨nofun, fun _ => ⟨add_one_toNat m, sbcRule_of_adcRule (adcRule_addWithCarry ..)⟩, nofun, nofun, nofun, nofun⟩⟩
  · exact ⟨rolByte, fun a r p => (a &&& r, setZN (a &&& r) p), rfl, fun a m p =>
      ⟨nofun, nofun, fun _ => ⟨_, shiftRule_rol m p, rfl, hlogic ..⟩, nofun, nofun, nofun⟩⟩
  · exact ⟨rorByte, addWithCarry, rfl, fun a m p =>
      ⟨nofun, nofun, nofun, fun _ => ⟨_, shiftRule_ror m p, adcRule_addWithCarry ..⟩, nofun, nofun⟩⟩
  · exact ⟨aslByte, fun a r p => (a ||| r, setZN (a ||| r) p), rfl, fun a m p =>
      ⟨nofun, nofun, nofun, nofun, fun _ => ⟨_, shiftRule_asl m p, rfl, hlogic ..⟩, nofun⟩⟩
  · exact ⟨lsrByte, fun a r p => (a ^^^ r, setZN (a ^^^ r) p), rfl, fun a m p =>
      ⟨nofun, nofun, nofun, nofun, nofun, fun _ => ⟨_, shiftRule_lsr m p, rfl, hlogic ..⟩⟩⟩

/-! The frames. -/

/-- An unofficial instruction under `nop` is the frame around nothing (49_unofficial.md R235). -/
theorem exec_idle (i : Instr) {s : State} (hflat : FlatBus s) (hu : i.operation.unofficial = true)
    (hnop : s.params.unofficialExec = .nop) :
    exec i s = .next { resolvedState i s with cycles := BitVec.ofNat 8 i.baseCycles } := by
  have hpermitted : Permitted i s := fun _ hf => by rw [hnop] at hf; cases hf
  have hidle : runs s.params.unofficialExec i.operation = direct id := by
    rw [hnop, runs_nop hu]
    rfl
  rw [exec_direct i hflat hpermitted hidle, totalCost, hnop, pagePenalty_nop hu]
  rfl

/-- A read-class instruction without page penalty on the flat bus: the operand fetched, its effect, the base cycles
(41_addressing_modes.md R135, 40_cpu_cycle.md R106). -/
theorem exec_readClass_plain (i : Instr) {s : State} {f : Byte → State → State} (hflat : FlatBus s) (hp : Permitted i s)
    (hop : i.operation ∈ [.bit, .alr, .anc, .arr, .axs]) (hf : runs s.params.unofficialExec i.operation = readClass f) :
    exec i s = .next { f (operandByte i.operand s) (fetchedState i s) with cycles := BitVec.ofNat 8 i.baseCycles } := by
  obtain ⟨hread, hplain⟩ := row_of_table plainRead_rows i (List.mem_append_left [Operation.dcp, .isc, .rla, .rra, .slo, .sre] hop)
  rw [exec_readClass i hflat hp hread hf, totalCost_of_plain s hplain]

/-- LAX, SKB and IGN under `full` on the flat bus: the operand fetched, its effect, and the base cost, one more on a page
crossing, which the forms outside PAGE_PENALTY_CLASS cannot make (40_cpu_cycle.md R106, R107). -/
theorem exec_unofficialRead (i : Instr) {s : State} {f : Byte → State → State} (hflat : FlatBus s)
    (hfull : s.params.unofficialExec = .full) (hop : i.operation ∈ [.lax, .skb, .ign])
    (hf : executorOf i.operation = readClass f) :
    exec i s = .next { f (operandByte i.operand s) (fetchedState i s) with
      cycles := BitVec.ofNat 8 (i.baseCycles + if crosses i.operand s then 1 else 0) } := by
  obtain ⟨hread, hclass⟩ := row_of_table unofficialRead_class i hop
  have hpenalty : pagePenalty .full i.operation (crosses i.operand s) = if crosses i.operand s then 1 else 0 := by
    obtain hclass | hmode := hclass
    · rw [pagePenalty, show pagePenaltyClass .full i.operation = true from hclass, Bool.and_true]
    · rw [crosses_of_not_indexed s (mode_operand i ▸ hmode)]
      rfl
  rw [exec_readClass i hflat (permitted_of_full hfull i) hread ((runs_of_full hfull _).trans hf), totalCost, hfull, hpenalty]
  rfl

/-- An unofficial read-modify-write under `full` on the flat bus: the operand read, the first byte function's result written
back at the same address, A and P by the second, and nothing else changed. -/
theorem exec_unofficialModify (i : Instr) {s : State} {f : ByteFn} {g : Byte → Byte → Byte → Byte × Byte}
    (hflat : FlatBus s) (hmem : Memory.wf s.mem = true) (hfull : s.params.unofficialExec = .full)
    (hop : i.operation ∈ [.dcp, .isc, .rla, .rra, .slo, .sre])
    (hf : executorOf i.operation = modifyMemory f (accumulate g)) :
    ∃ t, exec i s = .next t ∧
      t = { fetchedState i s with
        mem := t.mem, a := t.a, p := t.p, cycles := BitVec.ofNat 8 i.baseCycles
        busOps := (fetchedState i s).busOps ++ [.write (effectiveAddress i.operand s) (byteAt t (effectiveAddress i.operand s))] } ∧
      (∀ a, a ≠ effectiveAddress i.operand s → byteAt t a = byteAt s a) ∧
      ∃ q, f (operandByte i.operand s) s.p = q ∧ byteAt t (effectiveAddress i.operand s) = q.1 ∧
        t.a = (g s.a q.1 q.2).1 ∧ t.p = (g s.a q.1 q.2).2 := by
  obtain ⟨hread, hplain⟩ := row_of_table plainRead_rows i (List.mem_append_right [Operation.bit, .alr, .anc, .arr, .axs] hop)
  generalize hresult : f (operandByte i.operand s) s.p = q
  have hdone : executorOf i.operation i.operand (resolvedState i s) =
      done (accumulate g q.1 (memWrite (effectiveAddress i.operand s) q.1 { fetchedState i s with p := q.2 })) := by
    rw [hf, exec_modifyMemory i hflat hread, hresult]
  have hbus : FlatBus { fetchedState i s with p := q.2 } := hflat
  obtain ⟨hbyte, hframe⟩ := byteAt_write_flat hbus hmem (effectiveAddress i.operand s) q.1
  rw [memWrite_flat_byteAt hbus hmem] at hdone
  have hexec := exec_flat i hflat (permitted_of_full hfull i)
  rw [runs_of_full hfull, hdone, done, andThen_next, totalCost_of_plain s hplain] at hexec
  exact ⟨_, hexec, rfl, hframe, q, rfl, hbyte, rfl, rfl⟩

/-! The statements. -/

/-- Settles O53: the frame of a read without page penalty around BIT's flags. -/
theorem bitResult : Obligations.BitResult := by
  intro i s hflat hop
  have hofficial : i.operation.unofficial = false := by rw [hop]; rfl
  have hexec := exec_readClass_plain i hflat (permitted_of_official hofficial s) (by simp [hop])
    ((runs_of_official hofficial).trans (by rw [hop, executorOf, opBit]))
  obtain ⟨hzero, hnegative, hoverflow, hframe⟩ := bitRule_bitTestFlags s.a (operandByte i.operand s) s.p
  exact ⟨row_of_table bit_rows i hop, _, hexec, rfl, hzero, hnegative, hoverflow, hframe, fun _ => rfl⟩

/-- Settles O54: the frame of an Implied instruction, and of the policy `nop`, around nothing. -/
theorem nopResult : Obligations.NopResult := by
  intro i s hflat
  refine ⟨fun hop => ?_, exec_idle i hflat⟩
  obtain ⟨hbyte, hmode, hbase⟩ := row_of_table nop_row i hop
  have hexec := exec_direct_implied i hflat (by rw [hop]; rfl) (by rw [hop]; rfl) hmode (congrArg executorOf hop)
  rw [hexec, hbyte, show i.baseCycles = 2 from hbase]
  rfl

/-- Settles O55: one frame, with the byte function of each operation. -/
theorem unofficialImmediate : Obligations.UnofficialImmediate := by
  rintro i s m hflat hfull rfl hop
  have hbase : i.baseCycles = 2 := row_of_table unofficialImmediate_base i hop
  refine ⟨row_of_table unofficialImmediate_rows i hop, ?_⟩
  have hexec := fun f hf => exec_readClass_plain (f := f) i hflat (permitted_of_full hfull i) (List.mem_cons_of_mem _ hop)
    ((runs_of_full hfull i.operation).trans hf)
  rw [hbase] at hexec
  simp only [List.mem_cons, List.not_mem_nil, or_false] at hop
  obtain hop | hop | hop | hop := hop <;> rw [hop] at hexec ⊢
  · exact ⟨_, hexec (accumulate alrByte) rfl, rfl, fun _ => ⟨shiftRule_lsr (s.a &&& _) s.p, rfl⟩, nofun, nofun, nofun,
      fun _ => rfl⟩
  · obtain ⟨hzn, hcarry, hframe⟩ := ancRule_ancByte s.a (operandByte i.operand s) s.p
    exact ⟨_, hexec (accumulate ancByte) rfl, rfl, nofun, fun _ => ⟨rfl, rfl, hzn, hcarry, hframe⟩, nofun, nofun,
      fun _ => rfl⟩
  · obtain ⟨hr, hzn, hcarry, hoverflow, hframe⟩ := arrRule_arrByte s.a (operandByte i.operand s) s.p
    exact ⟨_, hexec (accumulate arrByte) rfl, rfl, nofun, nofun, fun _ => ⟨hr, rfl, hzn, hcarry, hoverflow, hframe⟩, nofun,
      fun _ => rfl⟩
  · obtain ⟨hr, hcompare⟩ := axsRule_axsByte s.a s.x (operandByte i.operand s) s.p
    have hexec := hexec _ (by rw [executorOf, opAxs])
    exact ⟨_, hexec, rfl, nofun, nofun, nofun, fun _ => ⟨hr, rfl, hcompare⟩, fun _ => rfl⟩

/-- Settles O56: one frame, in which LAX alone writes A, X and flags. -/
theorem unofficialReads : Obligations.UnofficialReads := by
  intro i s hflat hfull hop
  have hexec := exec_unofficialRead i hflat hfull hop (unofficialRead_executor hop)
  refine ⟨row_of_table unofficialRead_rows i hop, _, hexec, rfl, fun hlax => ?_, fun hne => if_neg hne, fun _ => rfl⟩
  dsimp only
  rw [if_pos hlax]
  exact ⟨hasZN_setZN .., setZN_onlyFlags _ s.p⟩

/-- Settles O57: the frame of a store around A and X. -/
theorem saxResult : Obligations.SaxResult := by
  intro i s hflat hmem hfull hop
  exact ⟨row_of_table sax_rows i hop, exec_storeClass_plain i hflat hmem (permitted_of_full hfull i) (by rw [hop]; rfl)
    ((runs_of_full hfull i.operation).trans (by rw [hop, executorOf, opSax]))⟩

/-- Settles O58: the frame of a read-modify-write around the two byte functions, which meet the rule. -/
theorem unofficialModify : Obligations.UnofficialModify := by
  rintro i s m hflat hmem hfull rfl hop
  obtain ⟨f, g, hf, hrule⟩ := unofficialModify_executor hop
  obtain ⟨t, hexec, ht, hframe, _, rfl, hbyte, ha, hp⟩ := exec_unofficialModify i hflat hmem hfull hop hf
  refine ⟨row_of_table unofficialModify_rows i hop, t, _, hexec, rfl, ht, hframe, ?_⟩
  rw [hbyte, ha, hp]
  exact hrule ..

end Sys2Proof.Machine
end
